-- ==== Sys2Proof/Word.lean ====
section
/-! DEFINITION. The word types of the block (spec/00_scope.md rules R6 to R8): the 16-bit request and response
words, the 13-bit character, the 11-bit codeword index. Bit 0 is the least significant bit, and every value is
unsigned. -/

namespace Sys2Proof

/-- A request word (R42) or a response word (R47): 16 bits. -/
abbrev Word := BitVec 16

/-- A 13-bit value (R8): a character read from a barcode, a codeword, or the `arg` field of a request. -/
abbrev Character := BitVec 13

/-- An 11-bit codeword index (R6, `IW` = 11). -/
abbrev Index := BitVec 11

end Sys2Proof
end

