-- ==== Sys2Proof/Syntax.lean ====
section
/-! DEFINITION. The requests of the block (one constructor per row of spec/opcode_table.json), the input sample of
one clock edge, and the lines of the spec's assembler (spec/30_encoding.md rules R42 to R53). -/

namespace Sys2Proof

/-- A decoded request word (R45). The two reserved rows of the table overlap (words with both `rsv` = 1 and
`op` = 11); R45 tests the reserved bit first, so such a word is an `illegalRsv`. The fields are the whole of the
word's variable bits, so every term is one request word and every word is one term. -/
inductive Instr where
  /-- `000kkkkkkkkkkkkk`: forward lookup, codeword index to codeword (R80). -/
  | enc (k : Character)
  /-- `010vvvvvvvvvvvvv`: inverse lookup with parity, character to codeword index (R81). -/
  | dec (v : Character)
  /-- `100vvvvvvvvvvvvv`: parity lookup (R82). -/
  | par (v : Character)
  /-- `xx1xxxxxxxxxxxxx`: reserved word with the reserved bit 13 set, whatever its `op` (R46, R83). -/
  | illegalRsv (op : BitVec 2) (arg : Character)
  /-- `110xxxxxxxxxxxxx`: reserved word with the reserved `op` = 11 and bit 13 clear (R46, R83). -/
  | illegalOp (arg : Character)
deriving DecidableEq, Repr

/-- What the input ports carry at one rising edge of `clk` (R25, R120). -/
structure Sample where
  /-- `rst`, synchronous and active high (R107). -/
  rst : Bool
  /-- `req_valid`: a request is presented (R25). -/
  reqValid : Bool
  /-- `req_word`; ignored when `rst` = 1 or `req_valid` = 0 (R25, R107). -/
  reqWord : Word
deriving DecidableEq, Repr

/-- One line of a request program (R51, R52). Operands are the integers the programmer wrote; `AsmLine.wf`
says which ones the assembler accepts. -/
inductive AsmLine where
  /-- `ENC k`. -/
  | enc (k : Nat)
  /-- `DEC v`. -/
  | dec (v : Nat)
  /-- `PAR v`. -/
  | par (v : Nat)
  /-- `DECC v`: `DEC (v ^ 0x1FFF)`. -/
  | decc (v : Nat)
  /-- `.word w`: the raw word, reserved words included. -/
  | word (w : Nat)
  /-- `IDLE n` (`IDLE` alone is `IDLE 1`): n cycles with `req_valid` = 0. -/
  | idle (n : Nat)
  /-- `RESET`: one cycle with `rst` = 1. -/
  | reset
deriving DecidableEq, Repr

end Sys2Proof
end

