-- ==== Sys2Proof/Decode.lean ====
section
/-! DEFINITION. Decoding and encoding of request words (spec/30_encoding.md rules R42 to R50). Decoding is total on
the 65536 words: a word that is no lookup decodes to one of the two reserved rows, by name. -/

namespace Sys2Proof

/-- The field `op`, bits 15:14 of a request word (R42). -/
def opField (w : Word) : BitVec 2 := w.extractLsb' 14 2

/-- The field `rsv`, bit 13 of a request word (R42). -/
def rsvBit (w : Word) : Bool := w.getLsbD 13

/-- The field `arg`, bits 12:0 of a request word (R42, R44). -/
def argField (w : Word) : Character := w.extractLsb' 0 13

/-- `Decode` of R45: the reserved bit first, then the reserved `op`, then the three lookups. -/
def decode (w : Word) : Instr :=
  if rsvBit w then .illegalRsv (opField w) (argField w)
  else if opField w = 3#2 then .illegalOp (argField w)
  else if opField w = 0#2 then .enc (argField w)
  else if opField w = 1#2 then .dec (argField w)
  else .par (argField w)

/-- A request word from its three fields, each at its place (R42). -/
def requestWord (op : BitVec 2) (rsv : Bool) (arg : Character) : Word :=
  op.setWidth 16 <<< 14 ||| (BitVec.ofBool rsv).setWidth 16 <<< 13 ||| arg.setWidth 16

/-- The word of a request: the patterns of R49, the values of `op` of R43. -/
def encode (i : Instr) : Word :=
  match i with
  | .enc k => requestWord 0#2 false k
  | .dec v => requestWord 1#2 false v
  | .par v => requestWord 2#2 false v
  | .illegalRsv op arg => requestWord op true arg
  | .illegalOp arg => requestWord 3#2 false arg

/-- The request word that a table row's bits make: bit 0 of the number is bit 0 of the word, and the bits above
`nbits` are 0. -/
def tableWord (nbits w : Nat) : Word := BitVec.ofNat 16 (w % 2 ^ nbits)

/-- The request this decoder reads from a table row's bits. A request is one 16-bit word (R42: no request is
longer), so a row of more than 16 bits is no request. -/
def decodeTableWord (nbits w : Nat) : Option Instr :=
  if nbits ≤ 16 then some (decode (tableWord nbits w)) else none

end Sys2Proof
end

