-- ==== Sys2Proof/Machine/Flags.lean ====
section
/-! DEFINITION. The response word and its flags (spec/30_encoding.md rule R47, spec/10_state.md rule R23): `hit`,
`err` and `par` are the block's only flags, and every accepted request sets all three. -/

namespace Sys2Proof.Machine

/-- The response word `hit, err, par, data` (R47, R79: `h << 15 | e << 14 | p << 13 | d`). -/
def response (hit err par : Bool) (data : Character) : Word :=
  (BitVec.ofBool hit).setWidth 16 <<< 15 ||| (BitVec.ofBool err).setWidth 16 <<< 14
    ||| (BitVec.ofBool par).setWidth 16 <<< 13 ||| data.setWidth 16

/-- Bit 15 of a response word: the lookup found an entry (R47). -/
def hitFlag (r : Word) : Bool := r.getLsbD 15

/-- Bit 14 of a response word: the request faulted (R47). -/
def errFlag (r : Word) : Bool := r.getLsbD 14

/-- Bit 13 of a response word: the parity bit read from FCS (R47). -/
def parFlag (r : Word) : Bool := r.getLsbD 13

/-- Bits 12:0 of a response word: the operation's data result (R47). -/
def dataField (r : Word) : Character := r.extractLsb' 0 13

end Sys2Proof.Machine
end

