-- ==== Sys2Proof/Machine/Bits.lean ====
section
/-! DEFINITION. The functions on 13-bit values that the rules use (spec/00_scope.md rules R8 and R9): population
count, bit reversal within the 13-bit field, complement. They are written over the kernel's own Nat operations, so
that the table construction can be evaluated by the kernel. -/

namespace Sys2Proof.Machine

/-- Bit i of v as a number (R8). -/
def bitOf (v i : Nat) : Nat := Nat.land (Nat.shiftRight v i) 1

/-- The number of the bits 0 to 12 of v that are 1. -/
def onesBelow13 (v : Nat) : Nat :=
  Nat.add (bitOf v 0) (Nat.add (bitOf v 1) (Nat.add (bitOf v 2) (Nat.add (bitOf v 3) (Nat.add (bitOf v 4)
    (Nat.add (bitOf v 5) (Nat.add (bitOf v 6) (Nat.add (bitOf v 7) (Nat.add (bitOf v 8) (Nat.add (bitOf v 9)
      (Nat.add (bitOf v 10) (Nat.add (bitOf v 11) (bitOf v 12))))))))))))

/-- `popcount13(v)`, the number of i in [0, 12] with v[i] = 1 (R9). -/
def popcount13 (v : Character) : Nat := onesBelow13 v.toNat

/-- The number whose bit 12 - i is bit i of v, for i in [0, 12]: R9's sum of `v[i] << (12 - i)`, whose terms have no
bit in common. -/
def mirrored13 (v : Nat) : Nat :=
  Nat.lor (Nat.shiftLeft (bitOf v 0) 12) (Nat.lor (Nat.shiftLeft (bitOf v 1) 11) (Nat.lor (Nat.shiftLeft (bitOf v 2) 10)
    (Nat.lor (Nat.shiftLeft (bitOf v 3) 9) (Nat.lor (Nat.shiftLeft (bitOf v 4) 8) (Nat.lor (Nat.shiftLeft (bitOf v 5) 7)
      (Nat.lor (Nat.shiftLeft (bitOf v 6) 6) (Nat.lor (Nat.shiftLeft (bitOf v 7) 5) (Nat.lor (Nat.shiftLeft (bitOf v 8) 4)
        (Nat.lor (Nat.shiftLeft (bitOf v 9) 3) (Nat.lor (Nat.shiftLeft (bitOf v 10) 2)
          (Nat.lor (Nat.shiftLeft (bitOf v 11) 1) (bitOf v 12))))))))))))

/-- `rev13(v)`, the reversal of the 13-bit field: `rev13(v)[i] = v[12 - i]` (R9). -/
def rev13 (v : Character) : Character := BitVec.ofNat 13 (mirrored13 v.toNat)

/-- `compl13(v) = v ^ 0x1FFF` (R8). -/
def compl13 (v : Character) : Character := v ^^^ 0x1FFF#13

end Sys2Proof.Machine
end

