-- ==== Sys2Proof/Machine/Operands.lean ====
section
/-! DEFINITION. Operand assembly (spec/30_encoding.md rule R44): the 13-bit `arg` is an unsigned number, with no
extension, scaling or shift. -/

namespace Sys2Proof.Machine

/-- The codeword index an ENC request names, in [0, 8191] (R44). -/
def indexOperand (arg : Character) : Nat := arg.toNat

/-- The character value a DEC or PAR request names: `arg` itself, every value legal (R44). -/
def characterOperand (arg : Character) : Character := arg

/-- `zext_13(k)`: a codeword index in the data field of a response (R81). -/
def zextIndex (k : Index) : Character := k.setWidth 13

end Sys2Proof.Machine
end

