-- ==== Sys2Proof/Machine/Rom.lean ====
section
/-! DEFINITION. The three constant tables as read-only memories (spec/20_memory.md rules R28 to R31) and the read
primitives `EncRead`, `DecRead`, `FcsRead` (R10). A memory is its image: the entries laid end to end in one number,
entry 0 at the least significant end. The widths are those of R13 and R16: 13 bits for an ENC entry, 12 bits
`valid, index` for a DEC entry, 1 bit for an FCS entry. `romContents` holds the images the construction of
Sys2Proof/Machine/Construction.lean leaves; Sys2Proof/Laws/Construction.lean proves that it does. -/

namespace Sys2Proof.Machine

/-- A memory of fixed-width entries: entry a is the `width` bits from bit `width * a` of `image`. -/
structure Rom where
  width : Nat
  image : Nat
deriving DecidableEq, Repr

/-- Entry `a` of a memory. -/
def Rom.read (r : Rom) (a : Nat) : Nat := (r.image >>> (r.width * a)) % 2 ^ r.width

/-- `TableWrite` (R10, R57): entry `a` becomes `x`. Only the construction uses it; a running block has no write
primitive. -/
def Rom.write (r : Rom) (a x : Nat) : Rom :=
  { r with image := r.image ^^^ ((r.read a ^^^ x % 2 ^ r.width) <<< (r.width * a)) }

/-- The three tables of R13. -/
structure Tables where
  enc : Rom
  dec : Rom
  fcs : Rom
deriving DecidableEq, Repr

/-- `ABSENT_INDEX` (R7, R16): the index field of an absent DEC entry, and the data field of a DEC miss (R81). -/
def absentIndex : Index := 0x7FF#11

/-- The stored word of a DEC entry, `valid, index[10:0]` (R16). -/
def decEntryWord (e : Option Index) : BitVec 12 :=
  match e with
  | some k => 0x800#12 ||| k.setWidth 12
  | none => absentIndex.setWidth 12

/-- The DEC entry a stored word stands for (R16). -/
def decEntry (w : BitVec 12) : Option Index :=
  if w.getLsbD 11 then some (w.extractLsb' 0 11) else none

/-- `ENC[k]` of a set of tables. `ENC` has no entry at k ≥ 1365 (R15), which the type of k says. -/
def Tables.encAt (t : Tables) (k : Fin 1365) : Character := BitVec.ofNat 13 (t.enc.read k.val)

/-- `DEC[v]` of a set of tables. -/
def Tables.decAt (t : Tables) (v : Character) : Option Index := decEntry (BitVec.ofNat 12 (t.dec.read v.toNat))

/-- `FCS[v]` of a set of tables. -/
def Tables.fcsAt (t : Tables) (v : Character) : Bool := t.fcs.read v.toNat == 1

/-- The image of `ENC`: 1365 entries of 13 bits. -/
def encImage : Nat :=
  0xA00880820808802800C00900280420140108024081022020405008100884021041008220402050100808480120220044108010882004140801020C003005000A0240024110008884002141000821800180A0005048001222000450800108C0003050000A24000251000089800018A000054800012C00003500000B80000187C05D03582721550C988E24A9292988D0E18A8C92688B843C41E08F207813D01E02F807807C06D80F02B503C12D20F08B443A42D09710B423A82D05720B413B02D03740B40BE02D01E833305C0CCC0E853285C14CA0E893245C24C90E513229A44C897113223984C866A13215C84C84EC1320DD04C82F813207918C626863185C18C60E4A3149A28C5170A31438C8C4C6523129A48C497123123988C466A23115C88C44EC2310DD08C42F8231078B0C3464C30C9A30C3170C30C38D0C2C65430A9A50C2971430A3990C266A43095C90C24EC4308DD10C22F8430878E0C1C6583069A60C1971830639A0C166A83055CA0C14EC8304DD20C12F8830479C0C0E6B03035CC0C0CED0302DD40C0AF903027B80C07760301BE80C05FC0300F80F3C0605CE81827390611CE21887384641CE09A07381701CE0381B36060ACD4184B348622CD1190B342682CD05C0B340E0CCCC1853328624CC91913322684CC85C13320E18CC618A3314648CC49A23311708CC438C330C650CC29643309A90CC25C43308E60CC19683305AA0CC15C83304DC0CC0EB03303740CC0BE03301E074B8182D2D06134B2188D2C46434B0960D2C1A834B05C0D2C0E0D4AC18552A86254A919152A25854A86A152A17054A838652986294A519252925894A46A252917094A438C528C5514A2A94528A5914A26A452897114A23585286A614A19685285AA14A15C85284DC14A0EB052837414A0BE05281E0E49C18592686264991519262A464989619261A864985C19260E1A49618A925454A494A92925258A4946A2925170A49434C924CA32493154924AA524929649249A924925C49248D62491A9892465A24916A892457224913709243AC2490DD09242F82490787123852C48D28B123454C48CA93123258C48C6A3123170C48C34D122CA3448B155122AA5448A9651229A9448A5C51228D64489A9912265A44896A912257244893711223AC4488DD11222F8448874E121CA38487156121AA584869661219A984865C61218D68485A9A12165A84856AA12157284853721213AC8484DD21212F8848475C120EA7048396C120DAB04835CC120CDD0482EB4120B750482BE41209DE0481EB81207760481BE81205FC0480F41E1E0A07878142E1D0A0B874144E1C8A13872148E1C4A23871150E1C2A43870960E1C1A838705C0E1C0D0D86C28361B051586A28561A852586928961A4545868A9161A25858686A161A17058683466198A1986614A6194A298651526192A498649626191A898645C26190D3186328C618C4D1862C54618AA518629646189A918625C46188CE1861C586186A618619686185AA18615C86184DC1860EB06183741860BE06181D0E85C283A17051685A285A168526859289A1644C6858C51A162A46858961A161A868585C1A160D1A856286A15852A85528AA1544CA854C52A152A4A854962A151A8A8545C2A150CB285344CA14CA32853134A14B152852A94A14A5928526A4A149712852338A147162851A98A1465A28516A8A145722851370A143AC2850DD0A142F828507472138A1C84E12B213512C84D28B21344CC84CC532132A4C84C9632131A8C84C5C32130CB484B44D212CA3484B135212B15484AA95212A59484A6A5212971484A3392127164849A9921265A48496A921257248493712123AC4848DD12122F8484872E211D13884728E211C4D8846C56211AA588469662119A988465C62118CE8845C5A2116A6884596A2115AA88455CA2114DC8844EB22113748844BE22111CF0843C5C210EA7084396C210DAB08435CC210CDD0842EB4210B750842BE42109DE0841EB82107760841BE82105FC0840F23C0F110F03C283C0F049703A445C0E8A1703A129C0E5127039289C0E44C7038C51C0E2A47038961C0E1A870385C1C0E0C9B036446C0D8A1B03612AC0D512B03528AC0D44CB034C52C0D2A4B034962C0D1A8B0345C2C0D0C7303382CC0CD13303328CC0CC4D3032C54C0CAA53032964C0C9A930325C4C0C8CE3031C58C0C6A63031968C0C5AA30315C8C0C4DC3030EB0C0C3743030BE0C0C1C9D02E44740B8A1D02E11B40B60AD02D44B40B4A2D02D13340B314D02CA9340B258D02C6A340B170D02C31D40AE0B502B44D40ACA3502B13540AB15502AA9540AA59502A6A540A971502A33940A7165029A9940A65A50296A940A572502937140A3AC5028DD140A2F8502871E409E0B902744E409CA39027136409B159026A96409A5990266A6409971902633A4097169025A9A40965A90256AA40957290253724093AC9024DD24092F8902473C408F171023A9C408E5B10236AC408D731023374408BAD1022DD4408AF910227784087AE1021DD84086FA10217F04083C5E01E827807911E01E287807846E01D82B807512E01D28B80744CE01CC538072A4E01C9638071A8E01C5C38070C7601B82D806D13601B28D806C4D601AC55806AA5601A9658069A9601A5C58068CE6019C598066A660199698065AA60195C98064DC6018EB18063746018BE18061C7A01782E805D13A01728E805C4DA016C56805AA5A0169668059A9A0165C68058CEA015C5A8056A6A01596A8055AAA0155CA8054DCA014EB2805374A014BE28051CF2013C5C804EA7201396C804DAB20135CC804CDD2012EB4804B752012BE48049DE2011EB88047762011BE88045FC2010F1F003E0BC00F44F003CA3C00F137003B15C00EA97003A59C00E6A7003971C00E33B003716C00DA9B00365AC00D6AB003572C00D3730033ACC00CDD30032F8C00C73D002F17400BA9D002E5B400B6AD002D73400B375002BAD400ADD5002AF9400A7790027AE4009DD90026FA40097F10023CF8007C5E001EA7800796E001DAB80075CE001CDD8006EB6001B758006BE60019DE8005EBA0017768005BEA0015FC8004F7C000FAF0003DDC000EFB00037F4000BFE0001F

/-- The image of `DEC`: 8192 entries of 12 bits, three hexadecimal digits an entry. -/
def decImage : Nat :=
  0x7FF7FF7FFD077FFD09D0B7FF7FFD0DD0F7FFD117FF7FF7FF7FFD13D157FFD177FF7FF7FFD197FF7FF7FF7FF7FF7FF8007FFD1BD1D7FFD1F7FF7FF7FFD217FF7FF7FF7FF7FF7FF802D237FF7FF7FF7FF7FF7FF8047FF7FF7FF8067FF80880A7FF7FFD25D277FFD297FF7FF7FFD2B7FF7FF7FF7FF7FF7FF80CD2D7FF7FF7FF7FF7FF7FF80E7FF7FF7FF8107FF8128147FFD2F7FF7FF7FF7FF7FF7FF8167FF7FF7FF8187FF81A81C7FF7FF7FF7FF81E7FF8208227FF7FF8248267FF8287FF7FF7FF7FFD31D337FFD357FF7FF7FFD377FF7FF7FF7FF7FF7FF82AD397FF7FF7FF7FF7FF7FF82C7FF7FF7FF82E7FF8308327FFD547FF7FF7FF7FF7FF7FF8347FF7FF7FF8367FF83883A7FF7FF7FF7FF83C7FF83E8407FF7FF8428447FF8467FF7FF7FFD307FF7FF7FF7FF7FF7FF8487FF7FF7FF84A7FF84C84E7FF7FF7FF7FF8507FF8528547FF7FF8568587FF85A7FF7FF7FF7FF7FF7FF85C7FF85E8607FF7FF8628647FF8667FF7FF7FF7FF86886A7FF86C7FF7FF7FF86E7FF7FF7FF7FF7FF7FF8017FFD3BD3D7FFD3F7FF7FF7FFD417FF7FF7FF7FF7FF7FF870D537FF7FF7FF7FF7FF7FF8727FF7FF7FF8747FF8768787FFD3A7FF7FF7FF7FF7FF7FF87A7FF7FF7FF87C7FF87E8807FF7FF7FF7FF8827FF8848867FF7FF88888A7FF88C7FF7FF7FFD2E7FF7FF7FF7FF7FF7FF88E7FF7FF7FF8907FF8928947FF7FF7FF7FF8967FF89889A7FF7FF89C89E7FF8A07FF7FF7FF7FF7FF7FF8A27FF8A48A67FF7FF8A88AA7FF8AC7FF7FF7FF7FF8AE8B07FF8B27FF7FF7FF8B47FF7FF7FF7FF7FF7FF803D247FF7FF7FF7FF7FF7FF8B67FF7FF7FF8B87FF8BA8BC7FF7FF7FF7FF8BE7FF8C08C27FF7FF8C48C67FF8C87FF7FF7FF7FF7FF7FF8CA7FF8CC8CE7FF7FF8D08D27FF8D47FF7FF7FF7FF8D68D87FF8DA7FF7FF7FF8DC7FF7FF7FF7FF7FF7FF80D7FF7FF7FF8DE7FF8E08E27FF7FF8E48E67FF8E87FF7FF7FF7FF8EA8EC7FF8EE7FF7FF7FF8F07FF7FF7FF7FF7FF7FF82B7FF8F28F47FF8F67FF7FF7FF8F87FF7FF7FF7FF7FF7FF871D067FF7FF7FF7FF7FF7FF8FB7FF7FF7FF9E17FFB19C597FF7FFD43D457FFD477FF7FF7FFD527FF7FF7FF7FF7FF7FF8FAD427FF7FF7FF7FF7FF7FF8FC7FF7FF7FF8FE7FF9009027FFD387FF7FF7FF7FF7FF7FF9047FF7FF7FF9067FF90890A7FF7FF7FF7FF90C7FF90E9107FF7FF9129147FF9167FF7FF7FFD2C7FF7FF7FF7FF7FF7FF9187FF7FF7FF91A7FF91C91E7FF7FF7FF7FF9207FF9229247FF7FF9269287FF92A7FF7FF7FF7FF7FF7FF92C7FF92E9307FF7FF9329347FF9367FF7FF7FF7FF93893A7FF93C7FF7FF7FF93E7FF7FF7FF7FF7FF7FF805D227FF7FF7FF7FF7FF7FF9407FF7FF7FF9427FF9449467FF7FF7FF7FF9487FF94A94C7FF7FF94E9507FF9527FF7FF7FF7FF7FF7FF9547FF9569587FF7FF95A95C7FF95E7FF7FF7FF7FF9609627FF9647FF7FF7FF9667FF7FF7FF7FF7FF7FF80F7FF7FF7FF9687FF96A96C7FF7FF96E9707FF9727FF7FF7FF7FF9749767FF9787FF7FF7FF97A7FF7FF7FF7FF7FF7FF82D7FF97C97E7FF9807FF7FF7FFD057FF7FF7FF7FF7FF7FF8738F97FF7FF7FF7FF7FF7FF8FD7FF7FF7FF9E37FFB1BC5B7FFD1A7FF7FF7FF7FF7FF7FF9827FF7FF7FF9847FF9869887FF7FF7FF7FF98A7FF98C98E7FF7FF9909927FF9947FF7FF7FF7FF7FF7FF9967FF99899A7FF7FF99C99E7FF9A07FF7FF7FF7FF9A29A47FF9A67FF7FF7FF9A87FF7FF7FF7FF7FF7FF8177FF7FF7FF9AA7FF9AC9AE7FF7FF9B09B27FF9B47FF7FF7FF7FF9B69B87FF9BA7FF7FF7FFD047FF7FF7FF7FF7FF7FF8357FF9BC9BE7FF9C07FF7FF7FF97B7FF7FF7FF7FF7FF7FF87B8F17FF7FF7FF7FF7FF7FF9057FF7FF7FF9EB7FFB23C617FF7FF7FF7FF9C27FF9C49C67FF7FF9C89CA7FF9CC7FF7FF7FF7FF9CE9D07FF9D27FF7FF7FF9A97FF7FF7FF7FF7FF7FF8497FF9D49D67FF9D87FF7FF7FF9677FF7FF7FF7FF7FF7FF88F8DD7FF7FF7FF7FF7FF7FF9197FF7FF7FF9FF7FFB35C6D7FF7FF9DA9DC7FF9DE7FF7FF7FF93F7FF7FF7FF7FF7FF7FF8B78B57FF7FF7FF7FF7FF7FF9417FF7FF7FFA257FFB55C817FF86F7FF7FF7FF7FF7FF7FF9837FF7FF7FFA617FFB85C9D7FF7FF7FF7FFAB37FFBC3CBD7FF7FFC0BCDB7FFCF17FF7FF7FF7FFD49D4B7FFD517FF7FF7FFD487FF7FF7FF7FF7FF7FF9E0D407FF7FF7FF7FF7FF7FF9E27FF7FF7FF9E47FF9E69E87FFD367FF7FF7FF7FF7FF7FF9EA7FF7FF7FF9EC7FF9EE9F07FF7FF7FF7FF9F27FF9F49F67FF7FF9F89FA7FF9FC7FF7FF7FFD2A7FF7FF7FF7FF7FF7FF9FE7FF7FF7FFA007FFA02A047FF7FF7FF7FFA067FFA08A0A7FF7FFA0CA0E7FFA107FF7FF7FF7FF7FF7FFA127FFA14A167FF7FFA18A1A7FFA1C7FF7FF7FF7FFA1EA207FFA227FF7FF7FF9DF7FF7FF7FF7FF7FF7FF807D207FF7FF7FF7FF7FF7FFA247FF7FF7FFA267FFA28A2A7FF7FF7FF7FFA2C7FFA2EA307FF7FFA32A347FFA367FF7FF7FF7FF7FF7FFA387FFA3AA3C7FF7FFA3EA407FFA427FF7FF7FF7FFA44A467FFA487FF7FF7FF9D97FF7FF7FF7FF7FF7FF8117FF7FF7FFA4A7FFA4CA4E7FF7FFA50A527FFA547FF7FF7FF7FFA56A587FFA5A7FF7FF7FF9C17FF7FF7FF7FF7FF7FF82F7FFA5CA5E7FFD037FF7FF7FF9817FF7FF7FF7FF7FF7FF8758F77FF7FF7FF7FF7FF7FF8FF7FF7FF7FF9E57FFB1DC5D7FFD187FF7FF7FF7FF7FF7FFA607FF7FF7FFA627FFA64A667FF7FF7FF7FFA687FFA6AA6C7FF7FFA6EA707FFA727FF7FF7FF7FF7FF7FFA747FFA76A787FF7FFA7AA7C7FFA7E7FF7FF7FF7FFA80A827FFA847FF7FF7FF9D37FF7FF7FF7FF7FF7FF8197FF7FF7FFA867FFA88A8A7FF7FFA8CA8E7FFA907FF7FF7FF7FFA92A947FFD027FF7FF7FF9BB7FF7FF7FF7FF7FF7FF8377FFA96A987FFA5B7FF7FF7FF9797FF7FF7FF7FF7FF7FF87D8EF7FF7FF7FF7FF7FF7FF9077FF7FF7FF9ED7FFB25C637FF7FF7FF7FFA9A7FFA9CA9E7FF7FFAA0AA27FFAA47FF7FF7FF7FFAA6AA87FFA857FF7FF7FF9A77FF7FF7FF7FF7FF7FF84B7FFAAAAAC7FFA497FF7FF7FF9657FF7FF7FF7FF7FF7FF8918DB7FF7FF7FF7FF7FF7FF91B7FF7FF7FFA017FFB37C6F7FF7FFAAEAB07FFA237FF7FF7FF93D7FF7FF7FF7FF7FF7FF8B98B37FF7FF7FF7FF7FF7FF9437FF7FF7FFA277FFB57C837FF86D7FF7FF7FF7FF7FF7FF9857FF7FF7FFA637FFB87C9F7FF7FF7FF7FFAB57FFBC5CBF7FF7FFC0DCDD7FFCF37FF7FF7FFD127FF7FF7FF7FF7FF7FFAB27FF7FF7FFAB47FFAB6AB87FF7FF7FF7FFABA7FFABCABE7FF7FFAC0AC27FFAC47FF7FF7FF7FF7FF7FFAC67FFAC8ACA7FF7FFACCACE7FFAD07FF7FF7FF7FFAD2AD47FFAA57FF7FF7FF9CD7FF7FF7FF7FF7FF7FF81F7FF7FF7FFAD67FFAD8ADA7FF7FFADCADE7FFD017FF7FF7FF7FFAE0AE27FFA917FF7FF7FF9B57FF7FF7FF7FF7FF7FF83D7FFAE4AE67FFA557FF7FF7FF9737FF7FF7FF7FF7FF7FF8838E97FF7FF7FF7FF7FF7FF90D7FF7FF7FF9F37FFB2BC677FF7FF7FF7FFAE87FFAEAAEC7FF7FFAEEAF07FFAD17FF7FF7FF7FFAF2AF47FFA7F7FF7FF7FF9A17FF7FF7FF7FF7FF7FF8517FFAF6AF87FFA437FF7FF7FF95F7FF7FF7FF7FF7FF7FF8978D57FF7FF7FF7FF7FF7FF9217FF7FF7FFA077FFB3DC737FF7FFAFAAFC7FFA1D7FF7FF7FF9377FF7FF7FF7FF7FF7FF8BF8AD7FF7FF7FF7FF7FF7FF9497FF7FF7FFA2D7FFB5DC877FF8677FF7FF7FF7FF7FF7FF98B7FF7FF7FFA697FFB8DCA37FF7FF7FF7FFABB7FFBCBCC37FF7FFC13CE17FFCF57FF7FF7FF7FF7FF7FFAFE7FFB00B027FF7FFB04B067FFAC57FF7FF7FF7FFB08B0A7FFA737FF7FF7FF9957FF7FF7FF7FF7FF7FF85D7FFB0CB0E7FFA377FF7FF7FF9537FF7FF7FF7FF7FF7FF8A38C97FF7FF7FF7FF7FF7FF92D7FF7FF7FFA137FFB47C797FF7FFB10B127FFA117FF7FF7FF92B7FF7FF7FF7FF7FF7FF8CB8A17FF7FF7FF7FF7FF7FF9557FF7FF7FFA397FFB67C8D7FF85B7FF7FF7FF7FF7FF7FF9977FF7FF7FFA757FFB97CA97FF7FF7FF7FFAC77FFBD5CC97FF7FFC1BCE57FFCF77FF7FF7FF7FFB14B167FF9FD7FF7FF7FF9177FF7FF7FF7FF7FF7FF8DF88D7FF7FF7FF7FF7FF7FF9697FF7FF7FFA4B7FFB75C957FF8477FF7FF7FF7FF7FF7FF9AB7FF7FF7FFA877FFBA5CB17FF7FF7FF7FFAD77FFBE1CCF7FF7FFC25CE97FFCF87FF7FF7FF8297FF7FF7FF7FF7FF7FF9C37FF7FF7FFA9B7FFBB3CB77FF7FF7FF7FFAE97FFBEDCD37FF7FFC2FCEB7FFCF67FF7FF7FF7FF7FF7FFAFF7FFBFBCD77FF7FFC3BCED7FFCF47FF7FF7FF7FFC49CEF7FFCF27FF7FF7FFCF07FF7FF7FF7FF7FF7FFD087FFD4DD507FFD4C7FF7FF7FFD467FF7FF7FF7FF7FF7FFB18D3E7FF7FF7FF7FF7FF7FFB1A7FF7FF7FFB1C7FFB1EB207FFD347FF7FF7FF7FF7FF7FFB227FF7FF7FFB247FFB26B287FF7FF7FF7FFB2A7FFB2CB2E7FF7FFB30B327FFB177FF7FF7FFD287FF7FF7FF7FF7FF7FFB347FF7FF7FFB367FFB38B3A7FF7FF7FF7FFB3C7FFB3EB407FF7FFB42B447FFB137FF7FF7FF7FF7FF7FFB467FFB48B4A7FF7FFB4CB4E7FFAFD7FF7FF7FF7FFB50B527FFAB17FF7FF7FF9DD7FF7FF7FF7FF7FF7FF809D1E7FF7FF7FF7FF7FF7FFB547FF7FF7FFB567FFB58B5A7FF7FF7FF7FFB5C7FFB5EB607FF7FFB62B647FFB0F7FF7FF7FF7FF7FF7FFB667FFB68B6A7FF7FFB6CB6E7FFAF97FF7FF7FF7FFB70B727FFAAD7FF7FF7FF9D77FF7FF7FF7FF7FF7FF8137FF7FF7FFB747FFB76B787FF7FFB7AB7C7FFAE77FF7FF7FF7FFB7EB807FFA997FF7FF7FF9BF7FF7FF7FF7FF7FF7FF8317FFB82D007FFA5F7FF7FF7FF97F7FF7FF7FF7FF7FF7FF8778F57FF7FF7FF7FF7FF7FF9017FF7FF7FF9E77FFB1FC5F7FFD167FF7FF7FF7FF7FF7FFB847FF7FF7FFB867FFB88B8A7FF7FF7FF7FFB8C7FFB8EB907FF7FFB92B947FFB0B7FF7FF7FF7FF7FF7FFB967FFB98B9A7FF7FFB9CB9E7FFAF57FF7FF7FF7FFBA0BA27FFAA97FF7FF7FF9D17FF7FF7FF7FF7FF7FF81B7FF7FF7FFBA47FFBA6BA87FF7FFBAABAC7FFAE37FF7FF7FF7FFBAECFF7FFA957FF7FF7FF9B97FF7FF7FF7FF7FF7FF8397FFBB0B817FFA597FF7FF7FF9777FF7FF7FF7FF7FF7FF87F8ED7FF7FF7FF7FF7FF7FF9097FF7FF7FF9EF7FFB27C657FF7FF7FF7FFBB27FFBB4BB67FF7FFBB8BBA7FFAD57FF7FF7FF7FFBBCBA37FFA837FF7FF7FF9A57FF7FF7FF7FF7FF7FF84D7FFBBEB737FFA477FF7FF7FF9637FF7FF7FF7FF7FF7FF8938D97FF7FF7FF7FF7FF7FF91D7FF7FF7FFA037FFB39C717FF7FFBC0B537FFA217FF7FF7FF93B7FF7FF7FF7FF7FF7FF8BB8B17FF7FF7FF7FF7FF7FF9457FF7FF7FFA297FFB59C857FF86B7FF7FF7FF7FF7FF7FF9877FF7FF7FFA657FFB89CA17FF7FF7FF7FFAB77FFBC7CC17FF7FFC0FCDF7FFCEE7FF7FF7FFD107FF7FF7FF7FF7FF7FFBC27FF7FF7FFBC47FFBC6BC87FF7FF7FF7FFBCA7FFBCCBCE7FF7FFBD0BD27FFB077FF7FF7FF7FF7FF7FFBD47FFBD6BD87FF7FFBDABDC7FFAF17FF7FF7FF7FFBDEBBB7FFAA37FF7FF7FF9CB7FF7FF7FF7FF7FF7FF8217FF7FF7FFBE07FFBE2BE47FF7FFBE6CFE7FFADF7FF7FF7FF7FFBE8BAD7FFA8F7FF7FF7FF9B37FF7FF7FF7FF7FF7FF83F7FFBEAB7D7FFA537FF7FF7FF9717FF7FF7FF7FF7FF7FF8858E77FF7FF7FF7FF7FF7FF90F7FF7FF7FF9F57FFB2DC697FF7FF7FF7FFBEC7FFBEEBF07FF7FFBF2BDD7FFACF7FF7FF7FF7FFBF4B9F7FFA7D7FF7FF7FF99F7FF7FF7FF7FF7FF7FF8537FFBF6B6F7FFA417FF7FF7FF95D7FF7FF7FF7FF7FF7FF8998D37FF7FF7FF7FF7FF7FF9237FF7FF7FFA097FFB3FC757FF7FFBF8B4F7FFA1B7FF7FF7FF9357FF7FF7FF7FF7FF7FF8C18AB7FF7FF7FF7FF7FF7FF94B7FF7FF7FFA2F7FFB5FC897FF8657FF7FF7FF7FF7FF7FF98D7FF7FF7FFA6B7FFB8FCA57FF7FF7FF7FFABD7FFBCDCC57FF7FFC15CE37FFCEC7FF7FF7FF7FF7FF7FFBFA7FFBFCBFE7FF7FFC00BD37FFAC37FF7FF7FF7FFC02B957FFA717FF7FF7FF9937FF7FF7FF7FF7FF7FF85F7FFC04B657FFA357FF7FF7FF9517FF7FF7FF7FF7FF7FF8A58C77FF7FF7FF7FF7FF7FF92F7FF7FF7FFA157FFB49C7B7FF7FFC06B457FFA0F7FF7FF7FF9297FF7FF7FF7FF7FF7FF8CD89F7FF7FF7FF7FF7FF7FF9577FF7FF7FFA3B7FFB69C8F7FF8597FF7FF7FF7FF7FF7FF9997FF7FF7FFA777FFB99CAB7FF7FF7FF7FFAC97FFBD7CCB7FF7FFC1DCE77FFCEA7FF7FF7FF7FFC08B337FF9FB7FF7FF7FF9157FF7FF7FF7FF7FF7FF8E188B7FF7FF7FF7FF7FF7FF96B7FF7FF7FFA4D7FFB77C977FF8457FF7FF7FF7FF7FF7FF9AD7FF7FF7FFA897FFBA7CB37FF7FF7FF7FFAD97FFBE3CD17FF7FFC27CF97FFCE87FF7FF7FF8277FF7FF7FF7FF7FF7FF9C57FF7FF7FFA9D7FFBB5CB97FF7FF7FF7FFAEB7FFBEFCD57FF7FFC31CE67FFCE47FF7FF7FF7FF7FF7FFB017FFBFDCD97FF7FFC3DCE27FFCE07FF7FF7FF7FFC4BCDE7FFCDC7FF7FF7FFCDA7FF7FF7FF7FF7FF7FFD0AD0C7FF7FF7FF7FF7FF7FFC0A7FF7FF7FFC0C7FFC0EC107FF7FF7FF7FFC127FFC14C167FF7FFC18BFF7FFB037FF7FF7FF7FF7FF7FFC1A7FFC1CC1E7FF7FFC20BF17FFAED7FF7FF7FF7FFC22BB77FFA9F7FF7FF7FF9C77FF7FF7FF7FF7FF7FF8257FF7FF7FFC247FFC26CFD7FF7FFC28BE57FFADB7FF7FF7FF7FFC2ABA97FFA8B7FF7FF7FF9AF7FF7FF7FF7FF7FF7FF8437FFC2CB797FFA4F7FF7FF7FF96D7FF7FF7FF7FF7FF7FF8898E37FF7FF7FF7FF7FF7FF9137FF7FF7FF9F97FFB31C6B7FF7FF7FF7FFC2E7FFC30C1F7FF7FFC32BD97FFACB7FF7FF7FF7FFC34B9B7FFA797FF7FF7FF99B7FF7FF7FF7FF7FF7FF8577FFC36B6B7FFA3D7FF7FF7FF9597FF7FF7FF7FF7FF7FF89D8CF7FF7FF7FF7FF7FF7FF9277FF7FF7FFA0D7FFB43C777FF7FFC38B4B7FFA177FF7FF7FF9317FF7FF7FF7FF7FF7FF8C58A77FF7FF7FF7FF7FF7FF94F7FF7FF7FFA337FFB63C8B7FF8617FF7FF7FF7FF7FF7FF9917FF7FF7FFA6F7FFB93CA77FF7FF7FF7FFAC17FFBD1CC77FF7FFC19CD87FFCD67FF7FF7FF7FF7FF7FFC3A7FFC3CC177FF7FFC3EBCF7FFABF7FF7FF7FF7FFC40B917FFA6D7FF7FF7FF98F7FF7FF7FF7FF7FF7FF8637FFC42B617FFA317FF7FF7FF94D7FF7FF7FF7FF7FF7FF8A98C37FF7FF7FF7FF7FF7FF9337FF7FF7FFA197FFB4DC7D7FF7FFC44B417FFA0B7FF7FF7FF9257FF7FF7FF7FF7FF7FF8D189B7FF7FF7FF7FF7FF7FF95B7FF7FF7FFA3F7FFB6DC917FF8557FF7FF7FF7FF7FF7FF99D7FF7FF7FFA7B7FFB9DCAD7FF7FF7FF7FFACD7FFBDBCCD7FF7FFC21CD47FFCD27FF7FF7FF7FFC46B2F7FF9F77FF7FF7FF9117FF7FF7FF7FF7FF7FF8E58877FF7FF7FF7FF7FF7FF96F7FF7FF7FFA517FFB7BC997FF8417FF7FF7FF7FF7FF7FF9B17FF7FF7FFA8D7FFBABCB57FF7FF7FF7FFADD7FFBE7CFA7FF7FFC29CD07FFCCE7FF7FF7FF8237FF7FF7FF7FF7FF7FF9C97FF7FF7FFAA17FFBB9CBB7FF7FF7FF7FFAEF7FFBF3CCC7FF7FFC33CCA7FFCC87FF7FF7FF7FF7FF7FFB057FFC01CC67FF7FFC3FCC47FFCC27FF7FF7FF7FFC4DCC07FFCBE7FF7FF7FFCBC7FF7FF7FF7FF7FF7FFD0E7FF7FF7FFC487FFC4AC117FF7FFC4CBC97FFAB97FF7FF7FF7FFC4EB8B7FFA677FF7FF7FF9897FF7FF7FF7FF7FF7FF8697FFC50B5B7FFA2B7FF7FF7FF9477FF7FF7FF7FF7FF7FF8AF8BD7FF7FF7FF7FF7FF7FF9397FF7FF7FFA1F7FFB51C7F7FF7FFC52B3B7FFA057FF7FF7FF91F7FF7FF7FF7FF7FF7FF8D78957FF7FF7FF7FF7FF7FF9617FF7FF7FFA457FFB71C937FF84F7FF7FF7FF7FF7FF7FF9A37FF7FF7FFA817FFBA1CAF7FF7FF7FF7FFAD37FFBDFCBA7FF7FFC23CB87FFCB67FF7FF7FF7FFC54B297FF9F17FF7FF7FF90B7FF7FF7FF7FF7FF7FF8EB8817FF7FF7FF7FF7FF7FF9757FF7FF7FFA577FFB7FC9B7FF83B7FF7FF7FF7FF7FF7FF9B77FF7FF7FFA937FFBAFCFB7FF7FF7FF7FFAE17FFBE9CB47FF7FFC2BCB27FFCB07FF7FF7FF81D7FF7FF7FF7FF7FF7FF9CF7FF7FF7FFAA77FFBBDCAE7FF7FF7FF7FFAF37FFBF5CAC7FF7FFC35CAA7FFCA87FF7FF7FF7FF7FF7FFB097FFC03CA67FF7FFC41CA47FFCA27FF7FF7FF7FFC4FCA07FFC9E7FF7FF7FFC9C7FF7FF7FF7FF7FF7FFD147FFC56B217FF9E97FF7FF7FF9037FF7FF7FF7FF7FF7FF8F38797FF7FF7FF7FF7FF7FF97D7FF7FF7FFA5D7FFB83CFC7FF8337FF7FF7FF7FF7FF7FF9BD7FF7FF7FFA977FFBB1C9A7FF7FF7FF7FFAE57FFBEBC987FF7FFC2DC967FFC947FF7FF7FF8157FF7FF7FF7FF7FF7FF9D57FF7FF7FFAAB7FFBBFC927FF7FF7FF7FFAF77FFBF7C907FF7FFC37C8E7FFC8C7FF7FF7FF7FF7FF7FFB0D7FFC05C8A7FF7FFC43C887FFC867FF7FF7FF7FFC51C847FFC827FF7FF7FFC807FF7FF7FF7FF7FF7FFD1C80B7FF7FF7FF7FF7FF7FF9DB7FF7FF7FFAAF7FFBC1C7E7FF7FF7FF7FFAFB7FFBF9C7C7FF7FFC39C7A7FFC787FF7FF7FF7FF7FF7FFB117FFC07C767FF7FFC45C747FFC727FF7FF7FF7FFC53C707FFC6E7FF7FF7FFC6C7FF7FF7FF7FF7FF7FFD267FF7FF7FFB157FFC09C6A7FF7FFC47C687FFC667FF7FF7FF7FFC55C647FFC627FF7FF7FFC607FF7FF7FF7FF7FF7FFD327FFC57C5E7FFC5C7FF7FF7FFC5A7FF7FF7FF7FF7FF7FFD3CC587FF7FF7FF7FF7FF7FFD447FF7FF7FFD4A7FFD4ED4F7FF7FFD4FD4E7FFD4A7FF7FF7FFD447FF7FF7FF7FF7FF7FFC58D3C7FF7FF7FF7FF7FF7FFC5A7FF7FF7FFC5C7FFC5EC577FFD327FF7FF7FF7FF7FF7FFC607FF7FF7FFC627FFC64C557FF7FF7FF7FFC667FFC68C477FF7FFC6AC097FFB157FF7FF7FFD267FF7FF7FF7FF7FF7FFC6C7FF7FF7FFC6E7FFC70C537FF7FF7FF7FFC727FFC74C457FF7FFC76C077FFB117FF7FF7FF7FF7FF7FFC787FFC7AC397FF7FFC7CBF97FFAFB7FF7FF7FF7FFC7EBC17FFAAF7FF7FF7FF9DB7FF7FF7FF7FF7FF7FF80BD1C7FF7FF7FF7FF7FF7FFC807FF7FF7FFC827FFC84C517FF7FF7FF7FFC867FFC88C437FF7FFC8AC057FFB0D7FF7FF7FF7FF7FF7FFC8C7FFC8EC377FF7FFC90BF77FFAF77FF7FF7FF7FFC92BBF7FFAAB7FF7FF7FF9D57FF7FF7FF7FF7FF7FF8157FF7FF7FFC947FFC96C2D7FF7FFC98BEB7FFAE57FF7FF7FF7FFC9ABB17FFA977FF7FF7FF9BD7FF7FF7FF7FF7FF7FF8337FFCFCB837FFA5D7FF7FF7FF97D7FF7FF7FF7FF7FF7FF8798F37FF7FF7FF7FF7FF7FF9037FF7FF7FF9E97FFB21C567FFD147FF7FF7FF7FF7FF7FFC9C7FF7FF7FFC9E7FFCA0C4F7FF7FF7FF7FFCA27FFCA4C417FF7FFCA6C037FFB097FF7FF7FF7FF7FF7FFCA87FFCAAC357FF7FFCACBF57FFAF37FF7FF7FF7FFCAEBBD7FFAA77FF7FF7FF9CF7FF7FF7FF7FF7FF7FF81D7FF7FF7FFCB07FFCB2C2B7FF7FFCB4BE97FFAE17FF7FF7FF7FFCFBBAF7FFA937FF7FF7FF9B77FF7FF7FF7FF7FF7FF83B7FFC9BB7F7FFA577FF7FF7FF9757FF7FF7FF7FF7FF7FF8818EB7FF7FF7FF7FF7FF7FF90B7FF7FF7FF9F17FFB29C547FF7FF7FF7FFCB67FFCB8C237FF7FFCBABDF7FFAD37FF7FF7FF7FFCAFBA17FFA817FF7FF7FF9A37FF7FF7FF7FF7FF7FF84F7FFC93B717FFA457FF7FF7FF9617FF7FF7FF7FF7FF7FF8958D77FF7FF7FF7FF7FF7FF91F7FF7FF7FFA057FFB3BC527FF7FFC7FB517FFA1F7FF7FF7FF9397FF7FF7FF7FF7FF7FF8BD8AF7FF7FF7FF7FF7FF7FF9477FF7FF7FFA2B7FFB5BC507FF8697FF7FF7FF7FF7FF7FF9897FF7FF7FFA677FFB8BC4E7FF7FF7FF7FFAB97FFBC9C4C7FF7FFC11C4A7FFC487FF7FF7FFD0E7FF7FF7FF7FF7FF7FFCBC7FF7FF7FFCBE7FFCC0C4D7FF7FF7FF7FFCC27FFCC4C3F7FF7FFCC6C017FFB057FF7FF7FF7FF7FF7FFCC87FFCCAC337FF7FFCCCBF37FFAEF7FF7FF7FF7FFCBBBB97FFAA17FF7FF7FF9C97FF7FF7FF7FF7FF7FF8237FF7FF7FFCCE7FFCD0C297FF7FFCFABE77FFADD7FF7FF7FF7FFCB5BAB7FFA8D7FF7FF7FF9B17FF7FF7FF7FF7FF7FF8417FFC99B7B7FFA517FF7FF7FF96F7FF7FF7FF7FF7FF7FF8878E57FF7FF7FF7FF7FF7FF9117FF7FF7FF9F77FFB2FC467FF7FF7FF7FFCD27FFCD4C217FF7FFCCDBDB7FFACD7FF7FF7FF7FFCADB9D7FFA7B7FF7FF7FF99D7FF7FF7FF7FF7FF7FF8557FFC91B6D7FFA3F7FF7FF7FF95B7FF7FF7FF7FF7FF7FF89B8D17FF7FF7FF7FF7FF7FF9257FF7FF7FFA0B7FFB41C447FF7FFC7DB4D7FFA197FF7FF7FF9337FF7FF7FF7FF7FF7FF8C38A97FF7FF7FF7FF7FF7FF94D7FF7FF7FFA317FFB61C427FF8637FF7FF7FF7FF7FF7FF98F7FF7FF7FFA6D7FFB91C407FF7FF7FF7FFABF7FFBCFC3E7FF7FFC17C3C7FFC3A7FF7FF7FF7FF7FF7FFCD67FFCD8C197FF7FFCC7BD17FFAC17FF7FF7FF7FFCA7B937FFA6F7FF7FF7FF9917FF7FF7FF7FF7FF7FF8617FFC8BB637FFA337FF7FF7FF94F7FF7FF7FF7FF7FF7FF8A78C57FF7FF7FF7FF7FF7FF9317FF7FF7FFA177FFB4BC387FF7FFC77B437FFA0D7FF7FF7FF9277FF7FF7FF7FF7FF7FF8CF89D7FF7FF7FF7FF7FF7FF9597FF7FF7FFA3D7FFB6BC367FF8577FF7FF7FF7FF7FF7FF99B7FF7FF7FFA797FFB9BC347FF7FF7FF7FFACB7FFBD9C327FF7FFC1FC307FFC2E7FF7FF7FF7FFC6BB317FF9F97FF7FF7FF9137FF7FF7FF7FF7FF7FF8E38897FF7FF7FF7FF7FF7FF96D7FF7FF7FFA4F7FFB79C2C7FF8437FF7FF7FF7FF7FF7FF9AF7FF7FF7FFA8B7FFBA9C2A7FF7FF7FF7FFADB7FFBE5C287FF7FFCFDC267FFC247FF7FF7FF8257FF7FF7FF7FF7FF7FF9C77FF7FF7FFA9F7FFBB7C227FF7FF7FF7FFAED7FFBF1C207FF7FFC1EC1C7FFC1A7FF7FF7FF7FF7FF7FFB037FFBFFC187FF7FFC16C147FFC127FF7FF7FF7FFC10C0E7FFC0C7FF7FF7FFC0A7FF7FF7FF7FF7FF7FFD0CD0A7FF7FF7FF7FF7FF7FFCDA7FF7FF7FFCDC7FFCDEC4B7FF7FF7FF7FFCE07FFCE2C3D7FF7FFCD9BFD7FFB017FF7FF7FF7FF7FF7FFCE47FFCE6C317FF7FFCD5BEF7FFAEB7FF7FF7FF7FFCB9BB57FFA9D7FF7FF7FF9C57FF7FF7FF7FF7FF7FF8277FF7FF7FFCE87FFCF9C277FF7FFCD1BE37FFAD97FF7FF7FF7FFCB3BA77FFA897FF7FF7FF9AD7FF7FF7FF7FF7FF7FF8457FFC97B777FFA4D7FF7FF7FF96B7FF7FF7FF7FF7FF7FF88B8E17FF7FF7FF7FF7FF7FF9157FF7FF7FF9FB7FFB33C087FF7FF7FF7FFCEA7FFCE7C1D7FF7FFCCBBD77FFAC97FF7FF7FF7FFCABB997FFA777FF7FF7FF9997FF7FF7FF7FF7FF7FF8597FFC8FB697FFA3B7FF7FF7FF9577FF7FF7FF7FF7FF7FF89F8CD7FF7FF7FF7FF7FF7FF9297FF7FF7FFA0F7FFB45C067FF7FFC7BB497FFA157FF7FF7FF92F7FF7FF7FF7FF7FF7FF8C78A57FF7FF7FF7FF7FF7FF9517FF7FF7FFA357FFB65C047FF85F7FF7FF7FF7FF7FF7FF9937FF7FF7FFA717FFB95C027FF7FF7FF7FFAC37FFBD3C007FF7FFBFEBFC7FFBFA7FF7FF7FF7FF7FF7FFCEC7FFCE3C157FF7FFCC5BCD7FFABD7FF7FF7FF7FFCA5B8F7FFA6B7FF7FF7FF98D7FF7FF7FF7FF7FF7FF8657FFC89B5F7FFA2F7FF7FF7FF94B7FF7FF7FF7FF7FF7FF8AB8C17FF7FF7FF7FF7FF7FF9357FF7FF7FFA1B7FFB4FBF87FF7FFC75B3F7FFA097FF7FF7FF9237FF7FF7FF7FF7FF7FF8D38997FF7FF7FF7FF7FF7FF95D7FF7FF7FFA417FFB6FBF67FF8537FF7FF7FF7FF7FF7FF99F7FF7FF7FFA7D7FFB9FBF47FF7FF7FF7FFACF7FFBDDBF27FF7FFBF0BEE7FFBEC7FF7FF7FF7FFC69B2D7FF9F57FF7FF7FF90F7FF7FF7FF7FF7FF7FF8E78857FF7FF7FF7FF7FF7FF9717FF7FF7FFA537FFB7DBEA7FF83F7FF7FF7FF7FF7FF7FF9B37FF7FF7FFA8F7FFBADBE87FF7FF7FF7FFADF7FFCFEBE67FF7FFBE4BE27FFBE07FF7FF7FF8217FF7FF7FF7FF7FF7FF9CB7FF7FF7FFAA37FFBBBBDE7FF7FF7FF7FFAF17FFBDCBDA7FF7FFBD8BD67FFBD47FF7FF7FF7FF7FF7FFB077FFBD2BD07FF7FFBCEBCC7FFBCA7FF7FF7FF7FFBC8BC67FFBC47FF7FF7FFBC27FF7FF7FF7FF7FF7FFD107FF7FF7FFCEE7FFCDFC0F7FF7FFCC1BC77FFAB77FF7FF7FF7FFCA1B897FFA657FF7FF7FF9877FF7FF7FF7FF7FF7FF86B7FFC85B597FFA297FF7FF7FF9457FF7FF7FF7FF7FF7FF8B18BB7FF7FF7FF7FF7FF7FF93B7FF7FF7FFA217FFB53BC07FF7FFC71B397FFA037FF7FF7FF91D7FF7FF7FF7FF7FF7FF8D98937FF7FF7FF7FF7FF7FF9637FF7FF7FFA477FFB73BBE7FF84D7FF7FF7FF7FF7FF7FF9A57FF7FF7FFA837FFBA3BBC7FF7FF7FF7FFAD57FFBBABB87FF7FFBB6BB47FFBB27FF7FF7FF7FFC65B277FF9EF7FF7FF7FF9097FF7FF7FF7FF7FF7FF8ED87F7FF7FF7FF7FF7FF7FF9777FF7FF7FFA597FFB81BB07FF8397FF7FF7FF7FF7FF7FF9B97FF7FF7FFA957FFCFFBAE7FF7FF7FF7FFAE37FFBACBAA7FF7FFBA8BA67FFBA47FF7FF7FF81B7FF7FF7FF7FF7FF7FF9D17FF7FF7FFAA97FFBA2BA07FF7FF7FF7FFAF57FFB9EB9C7FF7FFB9AB987FFB967FF7FF7FF7FF7FF7FFB0B7FFB94B927FF7FFB90B8E7FFB8C7FF7FF7FF7FFB8AB887FFB867FF7FF7FFB847FF7FF7FF7FF7FF7FFD167FFC5FB1F7FF9E77FF7FF7FF9017FF7FF7FF7FF7FF7FF8F58777FF7FF7FF7FF7FF7FF97F7FF7FF7FFA5F7FFD00B827FF8317FF7FF7FF7FF7FF7FF9BF7FF7FF7FFA997FFB80B7E7FF7FF7FF7FFAE77FFB7CB7A7FF7FFB78B767FFB747FF7FF7FF8137FF7FF7FF7FF7FF7FF9D77FF7FF7FFAAD7FFB72B707FF7FF7FF7FFAF97FFB6EB6C7FF7FFB6AB687FFB667FF7FF7FF7FF7FF7FFB0F7FFB64B627FF7FFB60B5E7FFB5C7FF7FF7FF7FFB5AB587FFB567FF7FF7FFB547FF7FF7FF7FF7FF7FFD1E8097FF7FF7FF7FF7FF7FF9DD7FF7FF7FFAB17FFB52B507FF7FF7FF7FFAFD7FFB4EB4C7FF7FFB4AB487FFB467FF7FF7FF7FF7FF7FFB137FFB44B427FF7FFB40B3E7FFB3C7FF7FF7FF7FFB3AB387FFB367FF7FF7FFB347FF7FF7FF7FF7FF7FFD287FF7FF7FFB177FFB32B307FF7FFB2EB2C7FFB2A7FF7FF7FF7FFB28B267FFB247FF7FF7FFB227FF7FF7FF7FF7FF7FFD347FFB20B1E7FFB1C7FF7FF7FFB1A7FF7FF7FF7FF7FF7FFD3EB187FF7FF7FF7FF7FF7FFD467FF7FF7FFD4C7FFD50D4D7FFD087FF7FF7FF7FF7FF7FFCF07FF7FF7FFCF27FFCEFC497FF7FF7FF7FFCF47FFCEDC3B7FF7FFCD7BFB7FFAFF7FF7FF7FF7FF7FF7FFCF67FFCEBC2F7FF7FFCD3BED7FFAE97FF7FF7FF7FFCB7BB37FFA9B7FF7FF7FF9C37FF7FF7FF7FF7FF7FF8297FF7FF7FFCF87FFCE9C257FF7FFCCFBE17FFAD77FF7FF7FF7FFCB1BA57FFA877FF7FF7FF9AB7FF7FF7FF7FF7FF7FF8477FFC95B757FFA4B7FF7FF7FF9697FF7FF7FF7FF7FF7FF88D8DF7FF7FF7FF7FF7FF7FF9177FF7FF7FF9FD7FFB16B147FF7FF7FF7FFCF77FFCE5C1B7FF7FFCC9BD57FFAC77FF7FF7FF7FFCA9B977FFA757FF7FF7FF9977FF7FF7FF7FF7FF7FF85B7FFC8DB677FFA397FF7FF7FF9557FF7FF7FF7FF7FF7FF8A18CB7FF7FF7FF7FF7FF7FF92B7FF7FF7FFA117FFB12B107FF7FFC79B477FFA137FF7FF7FF92D7FF7FF7FF7FF7FF7FF8C98A37FF7FF7FF7FF7FF7FF9537FF7FF7FFA377FFB0EB0C7FF85D7FF7FF7FF7FF7FF7FF9957FF7FF7FFA737FFB0AB087FF7FF7FF7FFAC57FFB06B047FF7FFB02B007FFAFE7FF7FF7FF7FF7FF7FFCF57FFCE1C137FF7FFCC3BCB7FFABB7FF7FF7FF7FFCA3B8D7FFA697FF7FF7FF98B7FF7FF7FF7FF7FF7FF8677FFC87B5D7FFA2D7FF7FF7FF9497FF7FF7FF7FF7FF7FF8AD8BF7FF7FF7FF7FF7FF7FF9377FF7FF7FFA1D7FFAFCAFA7FF7FFC73B3D7FFA077FF7FF7FF9217FF7FF7FF7FF7FF7FF8D58977FF7FF7FF7FF7FF7FF95F7FF7FF7FFA437FFAF8AF67FF8517FF7FF7FF7FF7FF7FF9A17FF7FF7FFA7F7FFAF4AF27FF7FF7FF7FFAD17FFAF0AEE7FF7FFAECAEA7FFAE87FF7FF7FF7FFC67B2B7FF9F37FF7FF7FF90D7FF7FF7FF7FF7FF7FF8E98837FF7FF7FF7FF7FF7FF9737FF7FF7FFA557FFAE6AE47FF83D7FF7FF7FF7FF7FF7FF9B57FF7FF7FFA917FFAE2AE07FF7FF7FF7FFD017FFADEADC7FF7FFADAAD87FFAD67FF7FF7FF81F7FF7FF7FF7FF7FF7FF9CD7FF7FF7FFAA57FFAD4AD27FF7FF7FF7FFAD07FFACEACC7FF7FFACAAC87FFAC67FF7FF7FF7FF7FF7FFAC47FFAC2AC07FF7FFABEABC7FFABA7FF7FF7FF7FFAB8AB67FFAB47FF7FF7FFAB27FF7FF7FF7FF7FF7FFD127FF7FF7FFCF37FFCDDC0D7FF7FFCBFBC57FFAB57FF7FF7FF7FFC9FB877FFA637FF7FF7FF9857FF7FF7FF7FF7FF7FF86D7FFC83B577FFA277FF7FF7FF9437FF7FF7FF7FF7FF7FF8B38B97FF7FF7FF7FF7FF7FF93D7FF7FF7FFA237FFAB0AAE7FF7FFC6FB377FFA017FF7FF7FF91B7FF7FF7FF7FF7FF7FF8DB8917FF7FF7FF7FF7FF7FF9657FF7FF7FFA497FFAACAAA7FF84B7FF7FF7FF7FF7FF7FF9A77FF7FF7FFA857FFAA8AA67FF7FF7FF7FFAA47FFAA2AA07FF7FFA9EA9C7FFA9A7FF7FF7FF7FFC63B257FF9ED7FF7FF7FF9077FF7FF7FF7FF7FF7FF8EF87D7FF7FF7FF7FF7FF7FF9797FF7FF7FFA5B7FFA98A967FF8377FF7FF7FF7FF7FF7FF9BB7FF7FF7FFD027FFA94A927FF7FF7FF7FFA907FFA8EA8C7FF7FFA8AA887FFA867FF7FF7FF8197FF7FF7FF7FF7FF7FF9D37FF7FF7FFA847FFA82A807FF7FF7FF7FFA7E7FFA7CA7A7FF7FFA78A767FFA747FF7FF7FF7FF7FF7FFA727FFA70A6E7FF7FFA6CA6A7FFA687FF7FF7FF7FFA66A647FFA627FF7FF7FFA607FF7FF7FF7FF7FF7FFD187FFC5DB1D7FF9E57FF7FF7FF8FF7FF7FF7FF7FF7FF7FF8F78757FF7FF7FF7FF7FF7FF9817FF7FF7FFD037FFA5EA5C7FF82F7FF7FF7FF7FF7FF7FF9C17FF7FF7FFA5A7FFA58A567FF7FF7FF7FFA547FFA52A507FF7FFA4EA4C7FFA4A7FF7FF7FF8117FF7FF7FF7FF7FF7FF9D97FF7FF7FFA487FFA46A447FF7FF7FF7FFA427FFA40A3E7FF7FFA3CA3A7FFA387FF7FF7FF7FF7FF7FFA367FFA34A327FF7FFA30A2E7FFA2C7FF7FF7FF7FFA2AA287FFA267FF7FF7FFA247FF7FF7FF7FF7FF7FFD208077FF7FF7FF7FF7FF7FF9DF7FF7FF7FFA227FFA20A1E7FF7FF7FF7FFA1C7FFA1AA187FF7FFA16A147FFA127FF7FF7FF7FF7FF7FFA107FFA0EA0C7FF7FFA0AA087FFA067FF7FF7FF7FFA04A027FFA007FF7FF7FF9FE7FF7FF7FF7FF7FF7FFD2A7FF7FF7FF9FC7FF9FA9F87FF7FF9F69F47FF9F27FF7FF7FF7FF9F09EE7FF9EC7FF7FF7FF9EA7FF7FF7FF7FF7FF7FFD367FF9E89E67FF9E47FF7FF7FF9E27FF7FF7FF7FF7FF7FFD409E07FF7FF7FF7FF7FF7FFD487FF7FF7FFD517FFD4BD497FF7FF7FF7FFCF17FFCDBC0B7FF7FFCBDBC37FFAB37FF7FF7FF7FFC9DB857FFA617FF7FF7FF9837FF7FF7FF7FF7FF7FF86F7FFC81B557FFA257FF7FF7FF9417FF7FF7FF7FF7FF7FF8B58B77FF7FF7FF7FF7FF7FF93F7FF7FF7FF9DE7FF9DC9DA7FF7FFC6DB357FF9FF7FF7FF7FF9197FF7FF7FF7FF7FF7FF8DD88F7FF7FF7FF7FF7FF7FF9677FF7FF7FF9D87FF9D69D47FF8497FF7FF7FF7FF7FF7FF9A97FF7FF7FF9D27FF9D09CE7FF7FF7FF7FF9CC7FF9CA9C87FF7FF9C69C47FF9C27FF7FF7FF7FFC61B237FF9EB7FF7FF7FF9057FF7FF7FF7FF7FF7FF8F187B7FF7FF7FF7FF7FF7FF97B7FF7FF7FF9C07FF9BE9BC7FF8357FF7FF7FF7FF7FF7FFD047FF7FF7FF9BA7FF9B89B67FF7FF7FF7FF9B47FF9B29B07FF7FF9AE9AC7FF9AA7FF7FF7FF8177FF7FF7FF7FF7FF7FF9A87FF7FF7FF9A67FF9A49A27FF7FF7FF7FF9A07FF99E99C7FF7FF99A9987FF9967FF7FF7FF7FF7FF7FF9947FF9929907FF7FF98E98C7FF98A7FF7FF7FF7FF9889867FF9847FF7FF7FF9827FF7FF7FF7FF7FF7FFD1A7FFC5BB1B7FF9E37FF7FF7FF8FD7FF7FF7FF7FF7FF7FF8F98737FF7FF7FF7FF7FF7FFD057FF7FF7FF9807FF97E97C7FF82D7FF7FF7FF7FF7FF7FF97A7FF7FF7FF9787FF9769747FF7FF7FF7FF9727FF97096E7FF7FF96C96A7FF9687FF7FF7FF80F7FF7FF7FF7FF7FF7FF9667FF7FF7FF9647FF9629607FF7FF7FF7FF95E7FF95C95A7FF7FF9589567FF9547FF7FF7FF7FF7FF7FF9527FF95094E7FF7FF94C94A7FF9487FF7FF7FF7FF9469447FF9427FF7FF7FF9407FF7FF7FF7FF7FF7FFD228057FF7FF7FF7FF7FF7FF93E7FF7FF7FF93C7FF93A9387FF7FF7FF7FF9367FF9349327FF7FF93092E7FF92C7FF7FF7FF7FF7FF7FF92A7FF9289267FF7FF9249227FF9207FF7FF7FF7FF91E91C7FF91A7FF7FF7FF9187FF7FF7FF7FF7FF7FFD2C7FF7FF7FF9167FF9149127FF7FF91090E7FF90C7FF7FF7FF7FF90A9087FF9067FF7FF7FF9047FF7FF7FF7FF7FF7FFD387FF9029007FF8FE7FF7FF7FF8FC7FF7FF7FF7FF7FF7FFD428FA7FF7FF7FF7FF7FF7FFD527FF7FF7FFD477FFD45D437FF7FFC59B197FF9E17FF7FF7FF8FB7FF7FF7FF7FF7FF7FFD068717FF7FF7FF7FF7FF7FF8F87FF7FF7FF8F67FF8F48F27FF82B7FF7FF7FF7FF7FF7FF8F07FF7FF7FF8EE7FF8EC8EA7FF7FF7FF7FF8E87FF8E68E47FF7FF8E28E07FF8DE7FF7FF7FF80D7FF7FF7FF7FF7FF7FF8DC7FF7FF7FF8DA7FF8D88D67FF7FF7FF7FF8D47FF8D28D07FF7FF8CE8CC7FF8CA7FF7FF7FF7FF7FF7FF8C87FF8C68C47FF7FF8C28C07FF8BE7FF7FF7FF7FF8BC8BA7FF8B87FF7FF7FF8B67FF7FF7FF7FF7FF7FFD248037FF7FF7FF7FF7FF7FF8B47FF7FF7FF8B27FF8B08AE7FF7FF7FF7FF8AC7FF8AA8A87FF7FF8A68A47FF8A27FF7FF7FF7FF7FF7FF8A07FF89E89C7FF7FF89A8987FF8967FF7FF7FF7FF8948927FF8907FF7FF7FF88E7FF7FF7FF7FF7FF7FFD2E7FF7FF7FF88C7FF88A8887FF7FF8868847FF8827FF7FF7FF7FF88087E7FF87C7FF7FF7FF87A7FF7FF7FF7FF7FF7FFD3A7FF8788767FF8747FF7FF7FF8727FF7FF7FF7FF7FF7FFD538707FF7FF7FF7FF7FF7FFD417FF7FF7FFD3F7FFD3DD3B7FF8017FF7FF7FF7FF7FF7FF86E7FF7FF7FF86C7FF86A8687FF7FF7FF7FF8667FF8648627FF7FF86085E7FF85C7FF7FF7FF7FF7FF7FF85A7FF8588567FF7FF8548527FF8507FF7FF7FF7FF84E84C7FF84A7FF7FF7FF8487FF7FF7FF7FF7FF7FFD307FF7FF7FF8467FF8448427FF7FF84083E7FF83C7FF7FF7FF7FF83A8387FF8367FF7FF7FF8347FF7FF7FF7FF7FF7FFD547FF8328307FF82E7FF7FF7FF82C7FF7FF7FF7FF7FF7FFD3982A7FF7FF7FF7FF7FF7FFD377FF7FF7FFD357FFD33D317FF7FF7FF7FF8287FF8268247FF7FF8228207FF81E7FF7FF7FF7FF81C81A7FF8187FF7FF7FF8167FF7FF7FF7FF7FF7FFD2F7FF8148127FF8107FF7FF7FF80E7FF7FF7FF7FF7FF7FFD2D80C7FF7FF7FF7FF7FF7FFD2B7FF7FF7FFD297FFD27D257FF7FF80A8087FF8067FF7FF7FF8047FF7FF7FF7FF7FF7FFD238027FF7FF7FF7FF7FF7FFD217FF7FF7FFD1F7FFD1DD1B7FF8007FF7FF7FF7FF7FF7FFD197FF7FF7FFD177FFD15D137FF7FF7FF7FFD117FFD0FD0D7FF7FFD0BD097FFD077FF7FF7FF

/-- The image of `FCS`: 8192 entries of 1 bit. -/
def fcsImage : Nat :=
  0x16686881688181166881811681161668688181168116166881161668166868806881811681161668811616681668688081161668166868801668688068808000688181168116166881161668166868808116166816686880166868806880800081161668166868801668688068808000166868806880800068808000800000006881811681161668811616681668688081161668166868801668688068808000811616681668688016686880688080001668688068808000688080008000000081161668166868801668688068808000166868806880800068808000800000001668688068808000688080008000000068808000800000008000000000000000688181168116166881161668166868808116166816686880166868806880800081161668166868801668688068808000166868806880800068808000800000008116166816686880166868806880800016686880688080006880800080000000166868806880800068808000800000006880800080000000800000000000000081161668166868801668688068808000166868806880800068808000800000001668688068808000688080008000000068808000800000008000000000000000166868806880800068808000800000006880800080000000800000000000000068808000800000008000000000000000800000000000000000000000000000006881811681161668811616681668688081161668166868801668688068808000811616681668688016686880688080001668688068808000688080008000000081161668166868801668688068808000166868806880800068808000800000001668688068808000688080008000000068808000800000008000000000000000811616681668688016686880688080001668688068808000688080008000000016686880688080006880800080000000688080008000000080000000000000001668688068808000688080008000000068808000800000008000000000000000688080008000000080000000000000008000000000000000000000000000000081161668166868801668688068808000166868806880800068808000800000001668688068808000688080008000000068808000800000008000000000000000166868806880800068808000800000006880800080000000800000000000000068808000800000008000000000000000800000000000000000000000000000001668688068808000688080008000000068808000800000008000000000000000688080008000000080000000000000008000000000000000000000000000000068808000800000008000000000000000800000000000000000000000000000008000000000000000000000000000000000000000000000000000000000000000

/-- The contents of the block at every cycle after power-up (R31): the tables of R58. -/
def romContents : Tables :=
  { enc := ⟨13, encImage⟩, dec := ⟨12, decImage⟩, fcs := ⟨1, fcsImage⟩ }

/-- `EncRead(k)` (R29). -/
def encRead (k : Fin 1365) : Character := romContents.encAt k

/-- `DecRead(v)` (R30), total on the 8192 characters. -/
def decRead (v : Character) : Option Index := romContents.decAt v

/-- `FcsRead(v)` (R30), total on the 8192 characters. -/
def fcsRead (v : Character) : Bool := romContents.fcsAt v

end Sys2Proof.Machine
end

