-- ==== Sys2Proof/Config.lean ====
section
/-! DEFINITION. The values the spec leaves free. Each is an opaque constant without a body, so no proof can see
what it is and a claim holds whatever it is. The tables are NOT here: their contents are fixed by the construction
and are no configuration input (spec/10_state.md rule R14). -/

namespace Sys2Proof.Config

/-- `rst` at edge n when the client's listed samples have run out (DESIGN CHOICE,
notes/assumptions/2.md). -/
opaque freeRst : Nat → Bool

/-- `req_valid` at edge n when the client's listed samples have run out (DESIGN CHOICE,
notes/assumptions/2.md). -/
opaque freeReqValid : Nat → Bool

/-- `req_word` at edge n when the client's listed samples have run out (DESIGN CHOICE,
notes/assumptions/2.md). -/
opaque freeReqWord : Nat → Word

/-- `rsp_q` before the first reset, at power-up number n (R109: a draw; notes/assumptions/4.md). -/
opaque powerUpRsp : Nat → Word

/-- `rsp_valid_q` before the first reset, at power-up number n (R109: a draw; notes/assumptions/4.md). -/
opaque powerUpRspValid : Nat → Bool

/-- `fault_cause_q` before the first reset, at power-up number n (R109: a draw; notes/assumptions/4.md). -/
opaque powerUpFaultCause : Nat → BitVec 2

/-- `fault_info_q` before the first reset, at power-up number n (R109: a draw; notes/assumptions/4.md). -/
opaque powerUpFaultInfo : Nat → Word

end Sys2Proof.Config
end

