-- ==== Sys2Proof/Machine/State.lean ====
section
/-! DEFINITION. The state of the block (spec/10_state.md rule R13), its reset value (R27, R108), its power-up value
(R109), and the reasons a step could stop. The three tables of R13 are constants and no part of State: R14 says that
a model defines them as a constant (Sys2Proof/Machine/Rom.lean, notes/assumptions/1.md). -/

namespace Sys2Proof.Machine

/-- The four registers of R13, and the model's own record of what the client presents. -/
structure State where
  /-- `rsp_q[15:0]`, the response word of the most recent accepted request (R18). -/
  rspQ : Word
  /-- `rsp_valid_q`, 1 in the cycle after an edge that accepted a request (R19). -/
  rspValidQ : Bool
  /-- `fault_cause_q[1:0]`, the cause code of the first fault since the last reset (R20). -/
  faultCauseQ : BitVec 2
  /-- `fault_info_q[15:0]`, the request word of the first fault since the last reset (R21). -/
  faultInfoQ : Word
  /-- The model's own: the samples the client presents at the coming edges, the next one first (R120). -/
  inputs : List Sample
  /-- The model's own: the number of the coming edge, which picks the free sample once `inputs` has run out
  (notes/assumptions/2.md). -/
  edgeNo : Nat
deriving DecidableEq, Repr

/-- The reasons the machine stops with a fault: NONE, so no step ends in one. The spec's own faults (R93) do not
stop the block (R96): they are recorded in `faultCauseQ` and `faultInfoQ` and the machine goes on. -/
inductive Fault where
deriving DecidableEq, Repr

/-- The reasons the model refuses an instruction. -/
inductive Refusal where
  /-- Raised only by an arm of `exec` whose instruction has no meaning yet (none is left): safe, nothing can be
  proved of a run that meets it. -/
  | notModelled (mnemonic : String)
deriving DecidableEq, Repr

/-- A fault cause (R93). -/
inductive Cause where
  /-- ILLEGAL_REQUEST: a reserved word was accepted. -/
  | illegalRequest
  /-- INDEX_OUT_OF_RANGE: an ENC with an index of 1365 or more was accepted. -/
  | indexOutOfRange
deriving DecidableEq, Repr

/-- `ResetState` (R27, R108), with nothing presented by the client yet and edge numbers from 0. -/
def State.reset : State :=
  { rspQ := 0x0000#16
    rspValidQ := false
    faultCauseQ := 0#2
    faultInfoQ := 0x0000#16
    inputs := []
    edgeNo := 0 }

/-- The state at power-up number `n`, before the first reset edge: the four registers are free draws (R109).
An edge without `rst` from here follows R85 by the model's choice (notes/assumptions/14.md). -/
def State.powerUp (n : Nat) (inputs : List Sample) : State :=
  { rspQ := Config.powerUpRsp n
    rspValidQ := Config.powerUpRspValid n
    faultCauseQ := Config.powerUpFaultCause n
    faultInfoQ := Config.powerUpFaultInfo n
    inputs := inputs
    edgeNo := 0 }

end Sys2Proof.Machine
end

