-- ==== Sys2Proof/Machine/Ops.lean ====
section
/-! DEFINITION. The shared operations: the results of the four kinds of request (spec/41_lookup_operations.md rules
R79 to R83), fault capture (spec/60_exceptions.md rule R95), the three effects of a clock edge on the registers (R85),
and the model's own reading of the client's samples. -/

namespace Sys2Proof.Machine

/-- `EncResult(k)` (R80): the range is checked before the table is read (R29). -/
def encResult (arg : Character) : Word × Option Cause :=
  if h : indexOperand arg ≤ 1364 then
    (response true false false (encRead ⟨indexOperand arg, Nat.lt_succ_of_le h⟩), none)
  else (response false true false 0#13, some .indexOutOfRange)

/-- `DecResult(v)` (R81). -/
def decResult (arg : Character) : Word × Option Cause :=
  match decRead (characterOperand arg) with
  | some i => (response true false (fcsRead (characterOperand arg)) (zextIndex i), none)
  | none => (response false false false (zextIndex absentIndex), none)

/-- `ParResult(v)` (R82). -/
def parResult (arg : Character) : Word × Option Cause :=
  match decRead (characterOperand arg) with
  | some _ => (response true false (fcsRead (characterOperand arg)) 0#13, none)
  | none => (response false false false 0#13, none)

/-- `IllegalResult()` (R83). -/
def illegalResult : Word × Option Cause := (response false true false 0#13, some .illegalRequest)

/-- `Execute(w)` (R79): the response word and the fault of a request word. -/
def execute (w : Word) : Word × Option Cause :=
  match decode w with
  | .enc k => encResult k
  | .dec v => decResult v
  | .par v => parResult v
  | .illegalRsv _ _ => illegalResult
  | .illegalOp _ => illegalResult

/-- `code(c)`, the cause code held in `fault_cause_q` (R93, R95). -/
def Cause.code (c : Cause) : BitVec 2 :=
  match c with
  | .illegalRequest => 1#2
  | .indexOutOfRange => 2#2

/-- `CaptureFault` (R95): the block's only exception entry. The first fault since reset is recorded, its cause code
and its whole request word; any other fault leaves the registers alone (R99). It transfers control nowhere (R98), and
nothing but reset undoes it (R99: there is no return). -/
def captureFault (f : Option Cause) (w : Word) (s : State) : State :=
  match f with
  | some c => if s.faultCauseQ = 0#2 then { s with faultCauseQ := c.code, faultInfoQ := w } else s
  | none => s

/-- The response registers at an edge that accepts a request (R85). -/
def respond (r : Word) (s : State) : State := { s with rspQ := r, rspValidQ := true }

/-- The effect of accepting request word `w` whose result is `result` (R85): the response is registered, and a first
fault is captured. -/
def acceptRequest (result : Word × Option Cause) (w : Word) (s : State) : State :=
  captureFault result.2 w (respond result.1 s)

/-- An edge with `rst` = 0 and `req_valid` = 0 (R85, R116): `rsp_valid_q` falls, everything else holds. -/
def idleEdge (s : State) : State := { s with rspValidQ := false }

/-- An edge with `rst` = 1 (R107, R108): every register takes its reset value. -/
def resetEdge (s : State) : State :=
  { s with rspQ := State.reset.rspQ
           rspValidQ := State.reset.rspValidQ
           faultCauseQ := State.reset.faultCauseQ
           faultInfoQ := State.reset.faultInfoQ }

/-- The sample on the input ports at edge `n` once the client's list has run out: free (notes/assumptions/2.md). -/
def freeSample (n : Nat) : Sample :=
  { rst := Config.freeRst n, reqValid := Config.freeReqValid n, reqWord := Config.freeReqWord n }

/-- The sample on the input ports at the coming edge. -/
def nextSample (s : State) : Sample := s.inputs.headD (freeSample s.edgeNo)

/-- The coming edge is taken: its sample is no longer pending. -/
def takeSample (s : State) : State := { s with inputs := s.inputs.tail, edgeNo := s.edgeNo + 1 }

/-- The sample that presents request word `w` (R53: `req_valid` = 1 and `rst` = 0). -/
def requestSample (w : Word) : Sample := { rst := false, reqValid := true, reqWord := w }

/-- The client presents request word `w` at the coming edge; what it presents at later edges does not change. -/
def presentWord (w : Word) (s : State) : State := { s with inputs := requestSample w :: s.inputs.tail }

end Sys2Proof.Machine
end

