-- ==== Sys2Proof/Machine/Illegal.lean ====
section
/-! DEFINITION. The meanings of the two rows of reserved words (spec/41_lookup_operations.md rule R83): the block
answers them with `err` = 1, records ILLEGAL_REQUEST and goes on. -/

namespace Sys2Proof.Machine

/-- A word with the reserved bit 13 set (R83). -/
def execIllegalRsv (op : BitVec 2) (arg : Character) (s : State) : Host.Outcome State Fault Refusal :=
  .next (acceptRequest illegalResult (encode (.illegalRsv op arg)) s)

/-- A word with the reserved `op` = 11 and bit 13 clear (R83). -/
def execIllegalOp (arg : Character) (s : State) : Host.Outcome State Fault Refusal :=
  .next (acceptRequest illegalResult (encode (.illegalOp arg)) s)

end Sys2Proof.Machine
end

