-- ==== Sys2Proof/Machine/Lookup.lean ====
section
/-! DEFINITION. The meanings of the three lookups, ENC, DEC and PAR, at an edge that accepts them
(spec/41_lookup_operations.md rules R80 to R82 and R85). -/

namespace Sys2Proof.Machine

/-- ENC: forward lookup, from codeword index to codeword (R80). -/
def execEnc (k : Character) (s : State) : Host.Outcome State Fault Refusal :=
  .next (acceptRequest (encResult k) (encode (.enc k)) s)

/-- DEC: inverse lookup with parity, from character to codeword index (R81). -/
def execDec (v : Character) (s : State) : Host.Outcome State Fault Refusal :=
  .next (acceptRequest (decResult v) (encode (.dec v)) s)

/-- PAR: parity lookup (R82). -/
def execPar (v : Character) (s : State) : Host.Outcome State Fault Refusal :=
  .next (acceptRequest (parResult v) (encode (.par v)) s)

end Sys2Proof.Machine
end

