-- ==== Sys2Proof/Machine/Dispatch.lean ====
section
/-! DEFINITION. One arm per request: what an accepted request does to the state at the edge that accepts it
(spec/41_lookup_operations.md rules R79 and R85). -/

namespace Sys2Proof.Machine

def exec (i : Instr) (s : State) : Host.Outcome State Fault Refusal :=
  match i with
  | .enc k => Sys2Proof.Machine.execEnc k s
  | .dec v => Sys2Proof.Machine.execDec v s
  | .par v => Sys2Proof.Machine.execPar v s
  | .illegalRsv op arg => Sys2Proof.Machine.execIllegalRsv op arg s
  | .illegalOp arg => Sys2Proof.Machine.execIllegalOp arg s

end Sys2Proof.Machine
end

