-- ==== Sys2Proof/Machine/Cycle.lean ====
section
/-! DEFINITION. One rising edge of `clk` under a given input sample, `Step(s, in)` of spec/41_lookup_operations.md
rule R85. -/

namespace Sys2Proof.Machine

/-- `Step(s, in)` (R85): reset dominates (R97, R107, R117), then a request, which is accepted exactly
when `rst` = 0 and `req_valid` = 1 (R26), else an idle edge (R116). That this holds before
the first reset too is the model's choice (DESIGN CHOICE, notes/assumptions/14.md). -/
def clockEdge (x : Sample) (s : State) : Host.Outcome State Fault Refusal :=
  if x.rst then .next (resetEdge s)
  else if x.reqValid then exec (decode x.reqWord) s
  else .next (idleEdge s)

end Sys2Proof.Machine
end

