-- ==== Sys2Proof/Machine/Step.lean ====
section
/-! DEFINITION. The machine's step: one rising edge of `clk` under the sample the client presents next. The block
fetches nothing (spec/00_scope.md rule R5): a request reaches it on its port. -/

namespace Sys2Proof.Machine

/-- One step: the coming edge's sample is taken from the client's list and applied by R85, also before the first reset
edge, where the spec does not say what an edge without `rst` does (R109, R120; DESIGN CHOICE,
notes/assumptions/14.md). -/
def step (s : State) : Host.Outcome State Fault Refusal := clockEdge (nextSample s) (takeSample s)

/-- The state in which the client presents the table row's word at the coming edge (notes/assumptions/3.md). -/
def State.withFetchWord (s : State) (nbits w : Nat) : State := presentWord (tableWord nbits w) s

end Sys2Proof.Machine
end

