-- ==== Sys2Proof/WellFormed.lean ====
section
/-! DEFINITION. Which terms stand for something: every request does (its fields are bit vectors of the fields'
widths, and R45 makes decoding total), and an assembler line does when its operand is in the range that R51 and
R52 give. -/

namespace Sys2Proof

/-- Every request is well formed (R45, R46): an ENC index of 1365 or more is a legal request that faults when it
is performed (R51), and the reserved words are requests that fault. -/
def Instr.wf (i : Instr) : Bool :=
  match i with
  | .enc _ => true
  | .dec _ => true
  | .par _ => true
  | .illegalRsv _ _ => true
  | .illegalOp _ => true

/-- The operands the assembler accepts: a lookup operand in [0, 8191] (R51), a raw word of 16 bits and at least
one idle cycle (R52). `DECC` expands to a `DEC`, whose range its operand has (DEDUCED), and a line of R52 with another
operand is refused as R51 refuses a lookup's (DESIGN CHOICE, notes/assumptions/5.md). -/
def AsmLine.wf (l : AsmLine) : Bool :=
  match l with
  | .enc k => decide (k ≤ 8191)
  | .dec v => decide (v ≤ 8191)
  | .par v => decide (v ≤ 8191)
  | .decc v => decide (v ≤ 8191)
  | .word w => decide (w ≤ 65535)
  | .idle n => decide (1 ≤ n)
  | .reset => true

end Sys2Proof
end

