-- ==== Sys2Proof/Machine/Assembler.lean ====
section
/-! DEFINITION. The spec's assembler (spec/30_encoding.md rules R51 to R53): the text of a request program to the
input samples it presents, one per clock cycle. Text is a list of characters. What the rules leave open about the
spelling is in notes/assumptions/5.md. -/

namespace Sys2Proof.Machine

/-- `IDLE`: one cycle with `req_valid` = 0; no word is presented (R52), so the word here is one that R25 ignores. -/
def idleSample : Sample := { rst := false, reqValid := false, reqWord := 0x0000#16 }

/-- `RESET`: one cycle with `rst` = 1; `req_valid` and `req_word` are ignored (R52). -/
def resetSample : Sample := { rst := true, reqValid := false, reqWord := 0x0000#16 }

/-- The samples of one accepted line (R50, R52, R53). -/
def lineSamples (l : AsmLine) : List Sample :=
  match l with
  | .enc k => [requestSample (encode (.enc (BitVec.ofNat 13 k)))]
  | .dec v => [requestSample (encode (.dec (BitVec.ofNat 13 v)))]
  | .par v => [requestSample (encode (.par (BitVec.ofNat 13 v)))]
  | .decc v => [requestSample (encode (.dec (compl13 (BitVec.ofNat 13 v))))]
  | .word w => [requestSample (BitVec.ofNat 16 w)]
  | .idle n => List.replicate n idleSample
  | .reset => [resetSample]

/-- The samples of a program (R53), refused when the assembler refuses one of its lines (R51). -/
def programSamples : List AsmLine → Option (List Sample)
  | [] => some []
  | l :: ls =>
    if l.wf then (programSamples ls).map (lineSamples l ++ ·) else none

/-- The value of a digit character, upper or lower case above 9. -/
def digitValue (c : Char) : Option Nat :=
  let n := c.toNat
  if 48 ≤ n ∧ n ≤ 57 then some (n - 48)
  else if 97 ≤ n ∧ n ≤ 102 then some (n - 87)
  else if 65 ≤ n ∧ n ≤ 70 then some (n - 55)
  else none

/-- The number written by digits of a base, after those that make `acc`. -/
def digitsValue (base : Nat) : List Char → Nat → Option Nat
  | [], acc => some acc
  | c :: cs, acc =>
    match digitValue c with
    | some d => if d < base then digitsValue base cs (acc * base + d) else none
    | none => none

/-- An operand: an unsigned integer in decimal, `0x` hexadecimal or `0b` binary with at least one digit. R51 gives these
forms for a lookup's operand; that the operands of `IDLE`, `.word` and `DECC` take the same three is the model's choice
(DESIGN CHOICE, notes/assumptions/5.md). -/
def parseNumber (cs : List Char) : Option Nat :=
  match cs with
  | [] => none
  | '0' :: 'x' :: [] => none
  | '0' :: 'b' :: [] => none
  | '0' :: 'x' :: ds => digitsValue 16 ds 0
  | '0' :: 'b' :: ds => digitsValue 2 ds 0
  | ds => digitsValue 10 ds 0

/-- A line without its comment: `;` starts one (R51). -/
def stripComment (cs : List Char) : List Char := cs.takeWhile (· ≠ ';')

/-- The words of a line, separated by spaces and tabs; `current` is the word being read, backwards. -/
def lineWords : List Char → List Char → List (List Char)
  | [], [] => []
  | [], current => [current.reverse]
  | c :: cs, current =>
    if c = ' ' ∨ c = '\t' then
      match current with
      | [] => lineWords cs []
      | _ => current.reverse :: lineWords cs []
    else lineWords cs (c :: current)

/-- A lower-case letter for an upper-case one. -/
def lowerCase (c : Char) : Char := if 65 ≤ c.toNat ∧ c.toNat ≤ 90 then Char.ofNat (c.toNat + 32) else c

/-- The line a spelling and a number stand for. The mnemonics of the three lookups are case-insensitive (R51); the
spellings of R52 are taken as they are written there. The number comes in the same forms for all six (DESIGN CHOICE,
notes/assumptions/5.md). -/
def operandLine (spelling : List Char) (n : Nat) : Option AsmLine :=
  if spelling.map lowerCase = ['e', 'n', 'c'] then some (.enc n)
  else if spelling.map lowerCase = ['d', 'e', 'c'] then some (.dec n)
  else if spelling.map lowerCase = ['p', 'a', 'r'] then some (.par n)
  else if spelling = ['D', 'E', 'C', 'C'] then some (.decc n)
  else if spelling = ['.', 'w', 'o', 'r', 'd'] then some (.word n)
  else if spelling = ['I', 'D', 'L', 'E'] then some (.idle n)
  else none

/-- One line of text: no line at all where only a comment or white space stands, and none of either where the
assembler refuses the text. Every operand, those of R52's spellings too, is read by `parseNumber` (DESIGN CHOICE,
notes/assumptions/5.md). -/
def parseLine (cs : List Char) : Option (List AsmLine) :=
  match lineWords (stripComment cs) [] with
  | [] => some []
  | [spelling] =>
    if spelling = ['I', 'D', 'L', 'E'] then some [.idle 1]
    else if spelling = ['R', 'E', 'S', 'E', 'T'] then some [.reset]
    else none
  | [spelling, operand] =>
    match parseNumber operand with
    | some n => (operandLine spelling n).map ([·])
    | none => none
  | _ => none

/-- The lines of a text, separated by line feeds; `current` is the line being read, backwards. -/
def textLines : List Char → List Char → List (List Char)
  | [], current => [current.reverse]
  | c :: cs, current =>
    if c = '\n' then current.reverse :: textLines cs [] else textLines cs (c :: current)

/-- The program of a text (R53): its lines in order. -/
def parseProgram : List (List Char) → Option (List AsmLine)
  | [] => some []
  | l :: ls =>
    match parseLine l, parseProgram ls with
    | some a, some b => some (a ++ b)
    | _, _ => none

/-- The assembler: a program's text to the samples it presents. -/
def assemble (text : List Char) : Option (List Sample) :=
  match parseProgram (textLines text []) with
  | some p => programSamples p
  | none => none

end Sys2Proof.Machine
end

