-- ==== Sys2Proof/Machine/Construction.lean ====
section
/-! DEFINITION. The construction that defines the contents of the tables (spec/40_table_construction.md rules R56 to
R62). It is no operation of the running block (R77). -/

namespace Sys2Proof.Machine

/-- A memory image of 2^d entries of `width` bits, each holding `x`. -/
def filledImage (width x : Nat) : Nat → Nat
  | 0 => x
  | d + 1 => filledImage width x d + filledImage width x d <<< (width * 2 ^ d)

/-- The tables before construction (R56): every DEC entry absent, every FCS entry 0, every ENC entry unset. An unset
ENC entry is the all-zero word, which is no codeword; none is left by the construction (R66). -/
def initialTables : Tables :=
  { enc := ⟨13, 0⟩
    dec := ⟨12, filledImage 12 (decEntryWord none).toNat 13⟩
    fcs := ⟨1, 0⟩ }

/-- `Place(c, k)` (R57): the five `TableWrite`s, in the spec's order. -/
def place (c : Character) (k : Nat) (t : Tables) : Tables :=
  { enc := t.enc.write k c.toNat
    dec := (t.dec.write c.toNat (decEntryWord (some (BitVec.ofNat 11 k))).toNat).write (compl13 c).toNat
      (decEntryWord (some (BitVec.ofNat 11 k))).toNat
    fcs := (t.fcs.write c.toNat 0).write (compl13 c).toNat 1 }

/-- What a call of `Build` leaves: the two indices it returns, and the tables it wrote. -/
structure BuildResult where
  low : Nat
  high : Nat
  tables : Tables
deriving DecidableEq, Repr

/-- The loop of `Build` (R57) over the values of `fwd` still to come: `low` is the next free index from the low end,
`high` the next free index from the high end. A palindrome goes to `high` (R60); the smaller member of a pair places
both members at `low` and `low + 1` (R59); the larger member was placed with its partner. -/
def buildLoop (n : Nat) : List Nat → Nat → Nat → Tables → BuildResult
  | [], low, high, t => ⟨low, high, t⟩
  | x :: xs, low, high, t =>
    let fwd : Character := BitVec.ofNat 13 x
    if popcount13 fwd = n then
      let rev := rev13 fwd
      if fwd = rev then buildLoop n xs low (high - 1) (place fwd high t)
      else if fwd < rev then buildLoop n xs (low + 2) high (place rev (low + 1) (place fwd low t))
      else buildLoop n xs low high t
    else buildLoop n xs low high t

/-- `Build(n, lowStart, highStart)` (R57): `fwd` ascends from 0 to 8191. -/
def build (n lowStart highStart : Nat) (t : Tables) : BuildResult :=
  buildLoop n (List.range 8192) lowStart highStart t

/-- The wide family's call, `Build(5, 0, 1286)` (R58). -/
def buildWide (t : Tables) : BuildResult := build 5 0 1286 t

/-- The narrow family's call, `Build(2, 1287, 1364)` (R58). -/
def buildNarrow (t : Tables) : BuildResult := build 2 1287 1364 t

/-- The tables left by the two calls in order, from the initial tables (R58). -/
def constructedTables : Tables := (buildNarrow (buildWide initialTables).tables).tables

end Sys2Proof.Machine
end

