-- ==== Sys2Proof/Machine/Ports.lean ====
section
/-! DEFINITION. The output ports (spec/10_state.md rule R25): functions of the state only. -/

namespace Sys2Proof.Machine

/-- What the output ports carry during a cycle (R25). -/
structure Outputs where
  reqReady : Bool
  rspValid : Bool
  rspWord : Word
  fault : Bool
  faultCause : BitVec 2
  faultInfo : Word
deriving DecidableEq, Repr

/-- The output ports in state `s` (R25, R101): `req_ready` is constant 1, and `fault` is the level
`fault_cause_q != 00`. -/
def outputs (s : State) : Outputs :=
  { reqReady := true
    rspValid := s.rspValidQ
    rspWord := s.rspQ
    fault := s.faultCauseQ != 0#2
    faultCause := s.faultCauseQ
    faultInfo := s.faultInfoQ }

end Sys2Proof.Machine
end

