-- ==== Sys2Proof/Machine/Run.lean ====
section
/-! DEFINITION. Runs and what is observed of them (spec/70_reset_and_hazards.md rule R120). -/

namespace Sys2Proof.Machine

/-- The client will present exactly these samples at the coming edges, the first one next. -/
def presentSamples (xs : List Sample) (s : State) : State := { s with inputs := xs }

/-- What R120 observes of a run: `(rsp_valid, rsp_word)` after each edge, and the final
`(fault_cause_q, fault_info_q)`. -/
structure Observation where
  responses : List (Bool × Word)
  faultCause : BitVec 2
  faultInfo : Word
deriving DecidableEq, Repr

/-- The observation of `n` steps, with the state after them; none if a step stops (no step does, R120). -/
def observeSteps : Nat → State → Option (Observation × State)
  | 0, s => some (⟨[], s.faultCauseQ, s.faultInfoQ⟩, s)
  | n + 1, s =>
    match step s with
    | .next t =>
      match observeSteps n t with
      | some (o, u) => some ({ o with responses := (t.rspValidQ, t.rspQ) :: o.responses }, u)
      | none => none
    | .fault _ => none
    | .refused _ => none

/-- A run (R120): the samples, one per rising edge, applied from state `s`. A claim about a run takes
as its premise that the first sample has `rst` = 1 (R120); what the model does in a run without it is its own choice
(DESIGN CHOICE, notes/assumptions/14.md). -/
def observeRun (xs : List Sample) (s : State) : Option (Observation × State) :=
  observeSteps xs.length (presentSamples xs s)

end Sys2Proof.Machine
end

