-- ==== Sys2Proof/Safety.lean ====
section
/-! DEFINITION. The terms in which claims about runs are stated: when the block is free of faults (R120), and the
invariant that relates its registers to one another. -/

namespace Sys2Proof.Machine

/-- No fault has been captured since the last reset (R93, R120: the premise of a claim of fault-freedom). -/
abbrev State.FaultFree (s : State) : Prop := s.faultCauseQ = 0#2

/-- The recorded request word is one that raises the recorded cause (R93, R94), 11 is never written (R93), and with
no cause recorded the word is the reset value (R21, R27). -/
abbrev CauseMatchesWord (cause : BitVec 2) (word : Word) : Prop :=
  (cause = 0#2 ∧ word = 0x0000#16)
  ∨ (cause = 1#2 ∧ (rsvBit word = true ∨ opField word = 3#2))
  ∨ (cause = 2#2 ∧ rsvBit word = false ∧ opField word = 0#2 ∧ 1365 ≤ (argField word).toNat)

/-- A response word has the shape of one of the outcomes of R48 (the reset value 0x0000 has that of a PAR miss). -/
abbrev ResponseShaped (r : Word) : Prop :=
  (hitFlag r = true ∧ errFlag r = false)
  ∨ (hitFlag r = false ∧ errFlag r = true ∧ parFlag r = false ∧ dataField r = 0#13)
  ∨ (hitFlag r = false ∧ errFlag r = false ∧ parFlag r = false ∧ (dataField r = 0x07FF#13 ∨ dataField r = 0#13))

/-- The invariant of the four registers: the fault registers agree, the response register holds a response's shape,
and a response that reports a fault stands only where a fault is recorded (a fault is captured at the edge that
answers it, unless an earlier one was, R95, and only reset clears either, R99). -/
abbrev State.Inv (s : State) : Prop :=
  CauseMatchesWord s.faultCauseQ s.faultInfoQ ∧ ResponseShaped s.rspQ
    ∧ (errFlag s.rspQ = true → s.faultCauseQ ≠ 0#2)

/-- The four fields of a response word, in the order `hit, err, par, data` (R47). -/
def fieldsOf (r : Word) : Bool × Bool × Bool × Character := (hitFlag r, errFlag r, parFlag r, dataField r)

/-- A request presented at an edge and accepted there, with the fault it raises (R26, R79). -/
def faultOf (x : Sample) : Option (Cause × Word) :=
  if x.rst = false ∧ x.reqValid = true then (execute x.reqWord).2.map (·, x.reqWord) else none

/-- The samples after the last reset edge of a run (all of them when it has none). -/
def sinceLastReset (xs : List Sample) : List Sample := (xs.reverse.takeWhile (fun x => !x.rst)).reverse

/-- The first fault since the last reset of a run (R20, R95, R97): its cause and its request word. -/
def firstFault (xs : List Sample) : Option (Cause × Word) := (sinceLastReset xs).findSome? faultOf

end Sys2Proof.Machine
end

