-- ==== Sys2Proof/Certificates/Slice0/Obligations.lean ====
section
/-! DEFINITION. The statements for the provers. Where a docstring says that the spec marks a rule as derived, the
statement formalises an inference that the spec draws from its own construction. A statement about every state also
covers the states before the first reset: that an edge without `rst` follows R85 there is the model's choice (DESIGN
CHOICE, notes/assumptions/14.md). -/

open Sys2Proof Sys2Proof.Machine

/-! ## Encoding -/

/-- Decoding the word of any well-formed request gives the request back: no field of any of the five rows is lost
(30_encoding.md sections 1 and 3). -/
def Obligations.DecodeOfEncodeIsTheRequest : Prop :=
  ∀ i : Instr, i.wf = true → decode (encode i) = i

/-- Every 16-bit word is the word of the request it decodes to, and that request is well formed: each word has one
meaning (30_encoding.md sections 1 and 3). -/
def Obligations.EncodeOfDecodeIsTheWord : Prop :=
  ∀ w : Word, encode (decode w) = w ∧ (decode w).wf = true

/-- R45: the reserved bit 13 is tested first, then the reserved `op` = 11, then the three lookups; the operand is
bits 12:0. A word decoded as ILLEGAL raises ILLEGAL_REQUEST, and an ENC with an index of 1365 or more decodes as ENC
and raises INDEX_OUT_OF_RANGE when it is performed. -/
def Obligations.DecodingIsTotalWithReservedBitFirst : Prop :=
  ∀ w : Word,
    (w.getLsbD 13 = true →
      decode w = .illegalRsv (w.extractLsb' 14 2) (w.extractLsb' 0 13) ∧ (execute w).2 = some .illegalRequest)
    ∧ (w.getLsbD 13 = false → w.toNat / 2 ^ 14 = 3 →
      decode w = .illegalOp (w.extractLsb' 0 13) ∧ (execute w).2 = some .illegalRequest)
    ∧ (w.getLsbD 13 = false → w.toNat / 2 ^ 14 = 0 →
      decode w = .enc (w.extractLsb' 0 13)
        ∧ (1365 ≤ w.toNat % 2 ^ 13 → (execute w).2 = some .indexOutOfRange))
    ∧ (w.getLsbD 13 = false → w.toNat / 2 ^ 14 = 1 → decode w = .dec (w.extractLsb' 0 13))
    ∧ (w.getLsbD 13 = false → w.toNat / 2 ^ 14 = 2 → decode w = .par (w.extractLsb' 0 13))

/-- R49: a word decodes to a lookup exactly when its bits under mask 0xE000 are the lookup's match, its operand is
then bits 12:0, and it is ILLEGAL exactly when it matches none of the three rows. That the patterns are disjoint
is in the three equivalences: a word decodes to one request. -/
def Obligations.LookupsMatchMaskAndMatch : Prop :=
  ∀ w : Word,
    ((∃ k, decode w = .enc k) ↔ w &&& 0xE000#16 = 0x0000#16)
    ∧ ((∃ v, decode w = .dec v) ↔ w &&& 0xE000#16 = 0x4000#16)
    ∧ ((∃ v, decode w = .par v) ↔ w &&& 0xE000#16 = 0x8000#16)
    ∧ (∀ a : Character, decode w = .enc a ∨ decode w = .dec a ∨ decode w = .par a → a.toNat = w.toNat % 8192)
    ∧ (((∃ op a, decode w = .illegalRsv op a) ∨ (∃ a, decode w = .illegalOp a)) ↔
        w &&& 0xE000#16 ≠ 0x0000#16 ∧ w &&& 0xE000#16 ≠ 0x4000#16 ∧ w &&& 0xE000#16 ≠ 0x8000#16)

/-- The encoding formulas of the three lookups, with the spec's examples (30_encoding.md section 3; the spec marks the
rule as derived). -/
def Obligations.EncodingFormulasOfLookups : Prop :=
  (∀ k : Character, encode (.enc k) = 0x0000#16 ||| k.setWidth 16)
  ∧ (∀ v : Character, encode (.dec v) = 0x4000#16 ||| v.setWidth 16)
  ∧ (∀ v : Character, encode (.par v) = 0x8000#16 ||| v.setWidth 16)
  ∧ encode (.dec 31#13) = 0x401F#16 ∧ encode (.par 8160#13) = 0x9FE0#16 ∧ encode (.enc 1364#13) = 0x0554#16

/-- Words written out from the patterns of the opcode table decode to the requests they stand for, each of the five
rows at least once (30_encoding.md section 3 and the words of 95_test_vectors.md section 3). -/
def Obligations.WordsOfTheFiveRowsDecode : Prop :=
  decode 0b0000010101010100#16 = .enc 1364#13
  ∧ decode 0b0101111111100000#16 = .dec 8160#13
  ∧ decode 0b1000000000011111#16 = .par 31#13
  ∧ decode 0b0010000000000000#16 = .illegalRsv 0#2 0#13
  ∧ decode 0b1111111111111111#16 = .illegalRsv 3#2 8191#13
  ∧ decode 0b1100000000000000#16 = .illegalOp 0#13
  ∧ decodeTableWord 16 0xDFFF = some (.illegalOp 8191#13)

/-- The counts of 30_encoding.md section 1, which are 8192 operands times these: whatever the operand is, of the eight
values of bits 15:13 four have the reserved bit (32768 words), two the reserved `op` (16384), one both (8192), five
are illegal (40960) and three legal (24576). Of the 8192 ENC words 1365 are in range. -/
def Obligations.CountsOfReservedAndLegalWords : Prop :=
  (∀ arg : Character,
    (List.range 8).countP (fun top => rsvBit (BitVec.ofNat 16 top <<< 13 ||| arg.setWidth 16)) = 4
    ∧ (List.range 8).countP (fun top => opField (BitVec.ofNat 16 top <<< 13 ||| arg.setWidth 16) == 3#2) = 2
    ∧ (List.range 8).countP (fun top => rsvBit (BitVec.ofNat 16 top <<< 13 ||| arg.setWidth 16)
        && opField (BitVec.ofNat 16 top <<< 13 ||| arg.setWidth 16) == 3#2) = 1
    ∧ (List.range 8).countP (fun top =>
        (execute (BitVec.ofNat 16 top <<< 13 ||| arg.setWidth 16)).2 == some .illegalRequest) = 5
    ∧ (List.range 8).countP (fun top =>
        (execute (BitVec.ofNat 16 top <<< 13 ||| arg.setWidth 16)).2 != some .illegalRequest) = 3)
  ∧ (List.range 8192).countP (fun n => (execute (encode (.enc (BitVec.ofNat 13 n)))).2 == none) = 1365

/-! ## The clock edge -/

/-- At an edge that accepts a request, the step is the request's meaning, at the state in which that edge's sample is
taken (41_lookup_operations.md section 3). The second clause is no rule of the spec but the model's own choice (DESIGN
CHOICE, notes/assumptions/3.md): `withFetchWord` places a word of at most 16 bits as the coming edge's sample and keeps
the samples after it, so that the next step runs that word. -/
def Obligations.StepRunsTheDecodedRequest : Prop :=
  (∀ (s : State) (x : Sample) (xs : List Sample), s.inputs = x :: xs → x.rst = false → x.reqValid = true →
    step s = exec (decode x.reqWord) { s with inputs := xs, edgeNo := s.edgeNo + 1 })
  ∧ (∀ (s : State) (nbits w : Nat), nbits ≤ 16 →
    step (s.withFetchWord nbits w)
      = exec (decode (BitVec.ofNat 16 (w % 2 ^ nbits))) { s with inputs := s.inputs.tail, edgeNo := s.edgeNo + 1 })

/-- R85: one rising edge. With `rst` = 1 every register takes its reset value; with an accepted request the response
of `Execute` is registered and `CaptureFault` is applied; otherwise `rsp_valid_q` falls and the rest holds. -/
def Obligations.StepFollowsTheCycleRule : Prop :=
  ∀ (s : State) (x : Sample) (xs : List Sample), s.inputs = x :: xs →
    (x.rst = true →
      step s = .next { rspQ := 0x0000#16, rspValidQ := false, faultCauseQ := 0#2, faultInfoQ := 0x0000#16,
                       inputs := xs, edgeNo := s.edgeNo + 1 })
    ∧ (x.rst = false → x.reqValid = true →
      step s = .next (captureFault (execute x.reqWord).2 x.reqWord
        { s with rspQ := (execute x.reqWord).1, rspValidQ := true, inputs := xs, edgeNo := s.edgeNo + 1 }))
    ∧ (x.rst = false → x.reqValid = false →
      step s = .next { s with rspValidQ := false, inputs := xs, edgeNo := s.edgeNo + 1 })

/-- The block never stops, hangs or halts: every state has a next state, whatever the client presents, also once the
listed samples have run out (70_reset_and_hazards.md section 4; that the samples are then free is the model's choice,
notes/assumptions/2.md). -/
def Obligations.EveryStepHasANextState : Prop :=
  ∀ s : State, ∃ t : State, step s = .next t

/-- R19 and R26: `rsp_valid_q` is 1 after an edge exactly when that edge had `rst` = 0 and `req_valid` = 1, so that a
request presented without reset is always accepted; it is 0 at reset. `req_ready` is constant 1. -/
def Obligations.ResponseValidAfterAcceptanceOnly : Prop :=
  State.reset.rspValidQ = false
  ∧ (∀ s : State, (outputs s).reqReady = true)
  ∧ ∀ s t : State, step s = .next t →
      (t.rspValidQ = true ↔ (nextSample s).rst = false ∧ (nextSample s).reqValid = true)

/-- R112: a request accepted at an edge is answered in the cycle that follows it, and in the cycle in which it is
presented the outputs still are those of the state before the edge. -/
def Obligations.ResponseAppearsOneCycleLater : Prop :=
  ∀ (s : State) (w : Word),
    outputs (presentWord w s) = outputs s
    ∧ ∃ t : State, step (presentWord w s) = .next t
        ∧ (outputs t).rspValid = true ∧ (outputs t).rspWord = (execute w).1

/-- R116: at an edge with `rst` = 0 and `req_valid` = 0, `rsp_valid_q` becomes 0 and the other three registers keep
their values. -/
def Obligations.IdleEdgeHoldsTheRegisters : Prop :=
  ∀ (s : State) (x : Sample) (xs : List Sample), s.inputs = x :: xs → x.rst = false → x.reqValid = false →
    ∃ t : State, step s = .next t ∧ t.rspValidQ = false ∧ t.rspQ = s.rspQ
      ∧ t.faultCauseQ = s.faultCauseQ ∧ t.faultInfoQ = s.faultInfoQ ∧ (outputs t).rspWord = s.rspQ

/-- R115: back to back, the first response stands in the cycle between the two edges and the second request's response
replaces it at the second edge; an idle cycle after the request keeps it on `rsp_word`. -/
def Obligations.SecondRequestOverwritesTheResponse : Prop :=
  ∀ (s : State) (w v : Word) (y : Sample) (xs : List Sample),
    (s.inputs = requestSample w :: requestSample v :: xs →
      ∃ t u : State, step s = .next t ∧ step t = .next u ∧ t.rspQ = (execute w).1 ∧ t.rspValidQ = true
        ∧ u.rspQ = (execute v).1 ∧ u.rspValidQ = true)
    ∧ (s.inputs = requestSample w :: y :: xs → y.rst = false → y.reqValid = false →
      ∃ t u : State, step s = .next t ∧ step t = .next u ∧ u.rspQ = (execute w).1 ∧ u.rspValidQ = false)

/-- The inputs that an edge ignores: `req_word` when `req_valid` = 0, and `req_valid` and `req_word` when `rst` = 1
(10_state.md section 4, 30_encoding.md section 4). -/
def Obligations.IgnoredInputsChangeNothing : Prop :=
  ∀ (s : State) (x y : Sample) (xs : List Sample),
    (x.rst = true ∧ y.rst = true) ∨ (x.rst = false ∧ y.rst = false ∧ x.reqValid = false ∧ y.reqValid = false) →
    step { s with inputs := x :: xs } = step { s with inputs := y :: xs }

/-- A request accepted at the first edge after a reset edge, from ANY state before it (also one with arbitrary
register values, as before the first reset): the registers hold that request's response and its fault alone
(70_reset_and_hazards.md sections 1 and 2). -/
def Obligations.FirstRequestAfterResetStartsAfresh : Prop :=
  ∀ (s : State) (r : Sample) (w : Word) (xs : List Sample), s.inputs = r :: requestSample w :: xs → r.rst = true →
    ∃ t u : State, step s = .next t ∧ step t = .next u ∧ u.rspQ = (execute w).1 ∧ u.rspValidQ = true
      ∧ ((execute w).2 = none → u.faultCauseQ = 0#2 ∧ u.faultInfoQ = 0x0000#16)
      ∧ (∀ c, (execute w).2 = some c → u.faultCauseQ = c.code ∧ u.faultInfoQ = w)

/-- Reset leaves every register at the value of 10_state.md section 5, and a reset edge takes any state to those
values whatever is presented (70_reset_and_hazards.md section 1). -/
def Obligations.ResetGivesTheResetValues : Prop :=
  State.reset.rspQ = 0x0000#16 ∧ State.reset.rspValidQ = false ∧ State.reset.faultCauseQ = 0#2
  ∧ State.reset.faultInfoQ = 0x0000#16
  ∧ ∀ (s : State) (x : Sample) (xs : List Sample), s.inputs = x :: xs → x.rst = true →
      ∃ t : State, step s = .next t ∧ { t with inputs := [], edgeNo := 0 } = State.reset

/-! ## The requests -/

/-- R80: ENC in range gives hit 1, err 0, par 0 and the codeword the construction put at the index, of popcount 5 or 2
by its family; out of range it gives `0,1,0,0` and INDEX_OUT_OF_RANGE. With the rule's corner cases and example. -/
def Obligations.EncGivesTheCodewordOrAnIndexFault : Prop :=
  (∀ (k : Character) (h : k.toNat < 1365),
    fieldsOf (execute (encode (.enc k))).1 = (true, false, false, constructedTables.encAt ⟨k.toNat, h⟩)
    ∧ (execute (encode (.enc k))).2 = none
    ∧ popcount13 (dataField (execute (encode (.enc k))).1) = if k.toNat ≤ 1286 then 5 else 2)
  ∧ (∀ k : Character, 1365 ≤ k.toNat →
    fieldsOf (execute (encode (.enc k))).1 = (false, true, false, 0#13)
    ∧ (execute (encode (.enc k))).2 = some .indexOutOfRange)
  ∧ dataField (execute (encode (.enc 0#13))).1 = 31#13
  ∧ dataField (execute (encode (.enc 1286#13))).1 = 496#13
  ∧ dataField (execute (encode (.enc 1287#13))).1 = 3#13
  ∧ dataField (execute (encode (.enc 1364#13))).1 = 160#13
  ∧ execute 0x0555#16 = (0x4000#16, some .indexOutOfRange)
  ∧ execute 0x1FFF#16 = (0x4000#16, some .indexOutOfRange)
  ∧ execute 0x0001#16 = (0x9F00#16, none)

/-- R81: DEC of a character with an entry gives hit 1, err 0, the parity of the construction and the zero-extended
index; of one without, hit 0, err 0, par 0 and data 0x07FF, which is above every index. No DEC faults. Which
characters miss, the complement's response, and the rule's examples. -/
def Obligations.DecGivesTheIndexAndParityOrAMiss : Prop :=
  (∀ v : Character,
    (∀ i : Index, constructedTables.decAt v = some i →
      fieldsOf (execute (encode (.dec v))).1 = (true, false, constructedTables.fcsAt v, i.setWidth 13))
    ∧ (constructedTables.decAt v = none →
      fieldsOf (execute (encode (.dec v))).1 = (false, false, false, 0x07FF#13))
    ∧ (execute (encode (.dec v))).2 = none
    ∧ (popcount13 v ∉ [2, 5, 8, 11] → hitFlag (execute (encode (.dec v))).1 = false)
    ∧ hitFlag (execute (encode (.dec (compl13 v)))).1 = hitFlag (execute (encode (.dec v))).1
    ∧ dataField (execute (encode (.dec (compl13 v)))).1 = dataField (execute (encode (.dec v))).1
    ∧ (hitFlag (execute (encode (.dec v))).1 = true →
      parFlag (execute (encode (.dec (compl13 v)))).1 = !parFlag (execute (encode (.dec v))).1)
    ∧ (hitFlag (execute (encode (.dec v))).1 = false → 1364 < (dataField (execute (encode (.dec v))).1).toNat))
  ∧ hitFlag (execute (encode (.dec 0#13))).1 = false
  ∧ hitFlag (execute (encode (.dec 0x1FFF#13))).1 = false
  ∧ execute 0x401F#16 = (0x8000#16, none)
  ∧ execute 0x5FE0#16 = (0xA000#16, none)
  ∧ execute 0x4000#16 = (0x07FF#16, none)

/-- R82: PAR gives the presence of the DEC entry, err 0, the parity of the construction and data 0; a miss has par 0.
No PAR faults. With the rule's corner case and examples. -/
def Obligations.ParGivesTheParityOrAMiss : Prop :=
  (∀ v : Character,
    fieldsOf (execute (encode (.par v))).1
      = ((constructedTables.decAt v).isSome, false, constructedTables.fcsAt v, 0#13)
    ∧ ((constructedTables.decAt v).isSome = false → parFlag (execute (encode (.par v))).1 = false)
    ∧ (execute (encode (.par v))).2 = none)
  ∧ hitFlag (execute (encode (.par 0x1FFF#13))).1 = false
  ∧ execute 0x9FE0#16 = (0xA000#16, none)
  ∧ execute 0x801F#16 = (0x8000#16, none)

/-- R83: every word with bit 13 set or with bits 15:14 = 11 gives hit 0, err 1, par 0, data 0 and ILLEGAL_REQUEST;
0x2000 is ILLEGAL and not ENC 0; with the rule's other cases. -/
def Obligations.ReservedWordsGiveAnIllegalRequest : Prop :=
  (∀ w : Word, w.getLsbD 13 = true ∨ (w.getLsbD 15 = true ∧ w.getLsbD 14 = true) →
    fieldsOf (execute w).1 = (false, true, false, 0#13) ∧ (execute w).2 = some .illegalRequest)
  ∧ decode 0x2000#16 ≠ .enc 0#13 ∧ execute 0x2000#16 = (0x4000#16, some .illegalRequest)
  ∧ execute 0xFFFF#16 = (0x4000#16, some .illegalRequest)
  ∧ ∀ s : State, ∃ t : State, exec (decode 0xC000#16) s = .next t ∧ t.rspQ = 0x4000#16
      ∧ (s.faultCauseQ = 0#2 → t.faultCauseQ = 1#2)

/-- An ENC in range completes, in every state: the response register holds `1,0,0,ENC[k]`, `rsp_valid_q` is 1 and
everything else is as before (41_lookup_operations.md sections 2 to 4). -/
def Obligations.EncInRangeCompletes : Prop :=
  ∀ (s : State) (k : Character) (h : k.toNat < 1365),
    exec (.enc k) s
      = .next { s with rspQ := 0x8000#16 ||| (constructedTables.encAt ⟨k.toNat, h⟩).setWidth 16, rspValidQ := true }

/-- An ENC out of range completes, in every state: the response is 0x4000, and the request is recorded with cause 10 if
no fault is recorded yet; everything else is as before (41_lookup_operations.md section 2, 60_exceptions.md section
2). -/
def Obligations.EncOutOfRangeCompletes : Prop :=
  ∀ (s : State) (k : Character), 1365 ≤ k.toNat →
    exec (.enc k) s
      = .next { s with rspQ := 0x4000#16, rspValidQ := true,
                       faultCauseQ := if s.faultCauseQ = 0#2 then 2#2 else s.faultCauseQ,
                       faultInfoQ := if s.faultCauseQ = 0#2 then k.setWidth 16 else s.faultInfoQ }

/-- Every DEC completes, in every state: the response is the entry's index with its parity or 0x07FF, `rsp_valid_q` is 1
and everything else, the fault registers with it, is as before (41_lookup_operations.md sections 2 to 4). -/
def Obligations.DecCompletes : Prop :=
  ∀ (s : State) (v : Character),
    exec (.dec v) s
      = .next { s with
          rspQ := match constructedTables.decAt v with
            | some i => (if constructedTables.fcsAt v then 0xA000#16 else 0x8000#16) ||| i.setWidth 16
            | none => 0x07FF#16,
          rspValidQ := true }

/-- Every PAR completes, in every state: the response is 0x8000 or 0xA000 by the parity of an entry, 0x0000 where there
is none, `rsp_valid_q` is 1 and everything else is as before (41_lookup_operations.md sections 2 to 4). -/
def Obligations.ParCompletes : Prop :=
  ∀ (s : State) (v : Character),
    exec (.par v) s
      = .next { s with
          rspQ := match constructedTables.decAt v with
            | some _ => if constructedTables.fcsAt v then 0xA000#16 else 0x8000#16
            | none => 0x0000#16,
          rspValidQ := true }

/-- A reserved word with bit 13 set completes, in every state and for all its bits: the response is 0x4000, and the word
is recorded with cause 01 if no fault is recorded yet; everything else is as before (41_lookup_operations.md section
2, 60_exceptions.md section 2). -/
def Obligations.ReservedBitWordCompletes : Prop :=
  ∀ (s : State) (op : BitVec 2) (arg : Character),
    exec (.illegalRsv op arg) s
      = .next { s with rspQ := 0x4000#16, rspValidQ := true,
                       faultCauseQ := if s.faultCauseQ = 0#2 then 1#2 else s.faultCauseQ,
                       faultInfoQ := if s.faultCauseQ = 0#2 then
                         op.setWidth 16 <<< 14 ||| 0x2000#16 ||| arg.setWidth 16 else s.faultInfoQ }

/-- A reserved word with `op` = 11 and bit 13 clear completes, in every state: the response is 0x4000, and the word is
recorded with cause 01 if no fault is recorded yet; everything else is as before (41_lookup_operations.md section 2,
60_exceptions.md section 2). -/
def Obligations.ReservedOpWordCompletes : Prop :=
  ∀ (s : State) (arg : Character),
    exec (.illegalOp arg) s
      = .next { s with rspQ := 0x4000#16, rspValidQ := true,
                       faultCauseQ := if s.faultCauseQ = 0#2 then 1#2 else s.faultCauseQ,
                       faultInfoQ := if s.faultCauseQ = 0#2 then 0xC000#16 ||| arg.setWidth 16 else s.faultInfoQ }

/-- R84: a DEC or PAR miss sets err to 0 and leaves the fault registers alone. -/
def Obligations.MissIsNotAFault : Prop :=
  ∀ (s : State) (v : Character), decRead v = none →
    (∃ t : State, exec (.dec v) s = .next t ∧ hitFlag t.rspQ = false ∧ errFlag t.rspQ = false
      ∧ t.faultCauseQ = s.faultCauseQ ∧ t.faultInfoQ = s.faultInfoQ)
    ∧ (∃ t : State, exec (.par v) s = .next t ∧ hitFlag t.rspQ = false ∧ errFlag t.rspQ = false
      ∧ t.faultCauseQ = s.faultCauseQ ∧ t.faultInfoQ = s.faultInfoQ)

/-- The frame of all five requests: whatever request is performed, the only registers it can change are the two of the
response and, for a first fault, the two of the fault record (41_lookup_operations.md section 4). -/
def Obligations.RequestsChangeOnlyResponseAndFirstFault : Prop :=
  ∀ (i : Instr) (s t : State), exec i s = .next t →
    t.inputs = s.inputs ∧ t.edgeNo = s.edgeNo
    ∧ ((execute (encode i)).2 = none → t.faultCauseQ = s.faultCauseQ ∧ t.faultInfoQ = s.faultInfoQ)
    ∧ (s.faultCauseQ ≠ 0#2 → t.faultCauseQ = s.faultCauseQ ∧ t.faultInfoQ = s.faultInfoQ)

/-- A response depends on the request word alone: two states that present the same word, whatever else they hold, get
the same response (41_lookup_operations.md section 4, 60_exceptions.md section 2). -/
def Obligations.ResponseDependsOnTheWordAlone : Prop :=
  ∀ (s t : State) (w : Word),
    ∃ s' t' : State, step (presentWord w s) = .next s' ∧ step (presentWord w t) = .next t'
      ∧ s'.rspQ = t'.rspQ ∧ s'.rspValidQ = t'.rspValidQ

/-- PAR and DEC agree: `ParResult(v)` is `DecResult(v)` with the data field set to 0 (41_lookup_operations.md section
4). -/
def Obligations.ParIsDecWithoutData : Prop :=
  ∀ v : Character,
    (execute (encode (.par v))).1 = (execute (encode (.dec v))).1 &&& 0xE000#16
    ∧ (execute (encode (.par v))).2 = (execute (encode (.dec v))).2

/-- ENC and DEC are inverse on the block: a DEC of the codeword of index k answers k with parity 0, and a DEC of the
codeword's complement, accepted next, answers k with parity 1 (41_lookup_operations.md section 4). -/
def Obligations.DecInvertsEnc : Prop :=
  ∀ (s : State) (k : Fin 1365) (c : Character) (xs : List Sample),
    fieldsOf (execute (encode (.enc (BitVec.ofNat 13 k.val)))).1 = (true, false, false, c) →
    s.inputs = requestSample (encode (.dec c)) :: requestSample (encode (.dec (compl13 c))) :: xs →
    ∃ t u : State, step s = .next t ∧ step t = .next u
      ∧ fieldsOf t.rspQ = (true, false, false, BitVec.ofNat 13 k.val)
      ∧ fieldsOf u.rspQ = (true, false, true, BitVec.ofNat 13 k.val)
      ∧ t.faultCauseQ = s.faultCauseQ ∧ u.faultCauseQ = s.faultCauseQ

/-- Single-bit neighbours: a flip of one bit moves the popcount by one; a flip hits exactly when it reaches popcount 2,
5, 8 or 11; a value with a flip that hits has popcount 1, 3, 4, 6, 7, 9, 10 or 12, and each such value has one; no
value that hits has a neighbour that hits (41_lookup_operations.md section 4). -/
def Obligations.SingleBitNeighboursOfHits : Prop :=
  (∀ (v : Character) (i : Fin 13),
    (popcount13 (v ^^^ BitVec.twoPow 13 i.val) = popcount13 v + 1
      ∨ popcount13 (v ^^^ BitVec.twoPow 13 i.val) + 1 = popcount13 v)
    ∧ ((decRead (v ^^^ BitVec.twoPow 13 i.val)).isSome = true ↔
        popcount13 (v ^^^ BitVec.twoPow 13 i.val) ∈ [2, 5, 8, 11])
    ∧ ((decRead v).isSome = true → (decRead (v ^^^ BitVec.twoPow 13 i.val)).isSome = false))
  ∧ ∀ v : Character, (∃ i : Fin 13, (decRead (v ^^^ BitVec.twoPow 13 i.val)).isSome = true) ↔
      popcount13 v ∈ [1, 3, 4, 6, 7, 9, 10, 12]

/-! ## Faults -/

/-- R94: which requests fault. -/
def Obligations.FaultsAreExactlyTheReservedWordsAndIndices : Prop :=
  ∀ w : Word,
    ((execute w).2 = some .illegalRequest ↔ w.getLsbD 13 = true ∨ w.toNat / 2 ^ 14 = 3)
    ∧ ((execute w).2 = some .indexOutOfRange ↔ w.toNat < 2 ^ 13 ∧ 1365 ≤ w.toNat)
    ∧ (∀ v : Character, (execute (encode (.dec v))).2 = none ∧ (execute (encode (.par v))).2 = none)

/-- R95: `CaptureFault` at an edge that accepts a request: the first fault since reset records its code and its word,
any other leaves the fault registers alone, and the response of a faulting request has err = 1 either way. -/
def Obligations.FirstFaultIsCapturedWithItsWord : Prop :=
  ∀ (s : State) (w : Word), ∃ t : State, step (presentWord w s) = .next t
    ∧ ((execute w).2 = none → t.faultCauseQ = s.faultCauseQ ∧ t.faultInfoQ = s.faultInfoQ)
    ∧ ((execute w).2 ≠ none → errFlag t.rspQ = true)
    ∧ ((execute w).2 = some .illegalRequest → s.faultCauseQ = 0#2 → t.faultCauseQ = 1#2 ∧ t.faultInfoQ = w)
    ∧ ((execute w).2 = some .indexOutOfRange → s.faultCauseQ = 0#2 → t.faultCauseQ = 2#2 ∧ t.faultInfoQ = w)
    ∧ (s.faultCauseQ ≠ 0#2 → t.faultCauseQ = s.faultCauseQ ∧ t.faultInfoQ = s.faultInfoQ)

/-- R99: no edge but a reset edge clears or changes a recorded fault; a fault while one is recorded still answers err =
1 and changes no fault register. -/
def Obligations.OnlyResetClearsARecordedFault : Prop :=
  ∀ s t : State, step s = .next t → s.faultCauseQ ≠ 0#2 →
    ((nextSample s).rst = false → t.faultCauseQ = s.faultCauseQ ∧ t.faultInfoQ = s.faultInfoQ)
    ∧ ((nextSample s).rst = true → t.faultCauseQ = 0#2 ∧ t.faultInfoQ = 0x0000#16)
    ∧ ((nextSample s).rst = false → (nextSample s).reqValid = true → (execute (nextSample s).reqWord).2 ≠ none →
        errFlag t.rspQ = true)

/-- Priority (60_exceptions.md section 3, 70_reset_and_hazards.md section 3): a reset edge drops the request presented
with it, without response or fault; a reserved word, one with the reserved bit 13 or the reserved `op` = 11, raises
ILLEGAL_REQUEST whatever its operand is; only a word that is not reserved raises INDEX_OUT_OF_RANGE. -/
def Obligations.ResetThenIllegalThenIndex : Prop :=
  (∀ (s : State) (w : Word) (valid : Bool) (xs : List Sample), s.inputs = ⟨true, valid, w⟩ :: xs →
    ∃ t : State, step s = .next t ∧ t.rspValidQ = false ∧ t.faultCauseQ = 0#2 ∧ t.faultInfoQ = 0x0000#16)
  ∧ (∀ w : Word, w.getLsbD 13 = true ∨ w.toNat / 2 ^ 14 = 3 → (execute w).2 = some .illegalRequest)
  ∧ (∀ w : Word, (execute w).2 = some .indexOutOfRange → w.getLsbD 13 = false ∧ w.toNat / 2 ^ 14 = 0)

/-- The output `fault` is the level `fault_cause_q != 00` (60_exceptions.md section 5): a faulting request makes it 1 in the next cycle, it then
stays 1 at every edge that is no reset edge, and a reset edge makes it 0. -/
def Obligations.FaultOutputRisesAndStaysUntilReset : Prop :=
  ∀ s t : State, step s = .next t →
    ((nextSample s).rst = false → (nextSample s).reqValid = true → (execute (nextSample s).reqWord).2 ≠ none →
      (outputs t).fault = true)
    ∧ ((nextSample s).rst = false → (outputs s).fault = true → (outputs t).fault = true)
    ∧ ((nextSample s).rst = true → (outputs t).fault = false)
    ∧ ((outputs t).fault = true ↔ t.faultCauseQ ≠ 0#2)

/-! ## Invariant and runs -/

/-- Every step keeps the invariant of the registers: the cause is never 11 and matches the recorded word, the response
register holds a response's shape, and an err response stands only where a fault is recorded. -/
def Obligations.EveryStepKeepsTheRegisterInvariant : Prop :=
  ∀ s t : State, s.Inv → step s = .next t → t.Inv

/-- The invariant holds at reset. -/
def Obligations.ResetMeetsTheRegisterInvariant : Prop := State.reset.Inv

/-- A reset edge establishes the invariant from any state, also from the arbitrary one of a power-up
(70_reset_and_hazards.md section 1). -/
def Obligations.ResetEdgeEstablishesTheRegisterInvariant : Prop :=
  ∀ s t : State, (nextSample s).rst = true → step s = .next t → t.Inv ∧ t.FaultFree

/-- A run that starts with a reset, from any state: at its end the fault registers hold the FIRST faulting request
accepted since the LAST reset edge, its cause code and its word, or their reset values when there was none
(60_exceptions.md sections 2 and 3, 70_reset_and_hazards.md section 4). -/
def Obligations.RunRecordsTheFirstFaultSinceTheLastReset : Prop :=
  ∀ (s : State) (x : Sample) (xs : List Sample), x.rst = true →
    ∃ (o : Observation) (t : State), observeRun (x :: xs) s = some (o, t)
      ∧ (o.faultCause, o.faultInfo)
          = match firstFault (x :: xs) with
            | none => (0#2, 0x0000#16)
            | some (c, w) => (c.code, w)

/-- A run from any state answers each accepted request with `Execute` of its own word in the cycle after its edge, and
is valid in no other cycle: whatever order and company requests come in, each gets the same response (20_memory.md
section 5, 41_lookup_operations.md section 4, 70_reset_and_hazards.md section 4). The statement does not take the
premise that the run starts with a reset: of the edges before the first reset the spec says nothing, and that they
follow R85 is the model's choice (DESIGN CHOICE, notes/assumptions/14.md). -/
def Obligations.RunAnswersEachRequestByItsOwnWord : Prop :=
  ∀ (s : State) (xs : List Sample),
    ∃ (o : Observation) (t : State), observeRun xs s = some (o, t) ∧ o.responses.length = xs.length
      ∧ ∀ (i : Nat) (x : Sample), xs[i]? = some x →
          ∃ r : Bool × Word, o.responses[i]? = some r
            ∧ (r.1 = true ↔ x.rst = false ∧ x.reqValid = true)
            ∧ (r.1 = true → r.2 = (execute x.reqWord).1)

/-! ## The tables -/

/-- Placing a codeword c at index k, in any tables of the block's entry widths, makes `DEC[c]` and
`DEC[c ^ 0x1FFF]` `some k`, `FCS[c]` 0, `FCS[c ^ 0x1FFF]` 1 and `ENC[k]` c, and leaves every other entry alone
(`Place` and the decode and parity entries of 40_table_construction.md section 1). -/
def Obligations.PlaceEntersTheCodewordAndItsComplement : Prop :=
  ∀ (t : Tables) (c : Character) (k : Fin 1365), t.enc.width = 13 → t.dec.width = 12 → t.fcs.width = 1 →
    (place c k.val t).decAt c = some (BitVec.ofNat 11 k.val)
    ∧ (place c k.val t).decAt (compl13 c) = some (BitVec.ofNat 11 k.val)
    ∧ (place c k.val t).fcsAt c = false
    ∧ (place c k.val t).fcsAt (compl13 c) = true
    ∧ (place c k.val t).encAt k = c
    ∧ (∀ v : Character, v ≠ c → v ≠ compl13 c →
        (place c k.val t).decAt v = t.decAt v ∧ (place c k.val t).fcsAt v = t.fcsAt v)
    ∧ (∀ j : Fin 1365, j ≠ k → (place c k.val t).encAt j = t.encAt j)

/-- The two calls of `Build` fill their ranges exactly: the wide one ends at low 1272 and high 1271, the narrow one at
low 1359 and high 1358; and a second run of both changes no entry (40_table_construction.md section 2, rules the spec
marks as derived). -/
def Obligations.BuildFillsItsRangesAndIsIdempotent : Prop :=
  (buildWide initialTables).low = 1272 ∧ (buildWide initialTables).high = 1271
  ∧ (buildNarrow (buildWide initialTables).tables).low = 1359
  ∧ (buildNarrow (buildWide initialTables).tables).high = 1358
  ∧ (buildNarrow (buildWide constructedTables).tables).tables = constructedTables

/-- The counts of the contents: 2730 present and 5462 absent DEC entries, 1365 parity bits equal to 1 and 6827 equal to
0, 15 wide and 6 narrow palindromes among the codewords (40_table_construction.md section 2). -/
def Obligations.CountsOfTheContents : Prop :=
  (List.range 8192).countP (fun n => (decRead (BitVec.ofNat 13 n)).isSome) = 2730
  ∧ (List.range 8192).countP (fun n => (decRead (BitVec.ofNat 13 n)).isNone) = 5462
  ∧ (List.range 8192).countP (fun n => fcsRead (BitVec.ofNat 13 n)) = 1365
  ∧ (List.range 8192).countP (fun n => !fcsRead (BitVec.ofNat 13 n)) = 6827
  ∧ (List.range 1287).countP (fun n => rev13 (encRead (Fin.ofNat 1365 n)) == encRead (Fin.ofNat 1365 n)) = 15
  ∧ (List.range 78).countP (fun n => rev13 (encRead (Fin.ofNat 1365 (1287 + n))) == encRead (Fin.ofNat 1365 (1287 + n)))
      = 6

/-- Presence: `DEC[v]` has an entry exactly when the popcount of v is 2, 5, 8 or 11 (40_table_construction.md section
2). -/
def Obligations.DecEntryPresentByPopcount : Prop :=
  ∀ v : Character, (decRead v).isSome = true ↔ popcount13 v ∈ [2, 5, 8, 11]

/-- R17: a parity entry is 0 or 1, and 0 where the construction left `DEC[v]` absent. -/
def Obligations.ParityIsZeroWhereNoEntryIs : Prop :=
  ∀ v : Character, romContents.fcs.read v.toNat < 2
    ∧ (constructedTables.decAt v = none → constructedTables.fcsAt v = false)

/-- Inverse laws: the entry of each codeword and of its complement is the codeword's index, with parity 0 and 1; an entry
names an index below 1365 whose codeword is the character or its complement, and the parity tells which; `ENC` is
injective (40_table_construction.md section 2). -/
def Obligations.DecIsTheInverseOfEnc : Prop :=
  (∀ k : Fin 1365,
    decRead (encRead k) = some (BitVec.ofNat 11 k.val) ∧ fcsRead (encRead k) = false
    ∧ decRead (compl13 (encRead k)) = some (BitVec.ofNat 11 k.val) ∧ fcsRead (compl13 (encRead k)) = true)
  ∧ (∀ (v : Character) (i : Index), decRead v = some i →
    ∃ h : i.toNat < 1365, (encRead ⟨i.toNat, h⟩ = v ∨ encRead ⟨i.toNat, h⟩ = compl13 v)
      ∧ (fcsRead v = true ↔ encRead ⟨i.toNat, h⟩ ≠ v))
  ∧ (∀ j k : Fin 1365, encRead j = encRead k → j = k)

/-- Layout of `ENC`: in each family the pairs stand at two consecutive indices, the smaller member first and its
reversal next, with increasing first members; the palindromes fill the top of the range with values that fall as the
index rises (40_table_construction.md section 2). -/
def Obligations.EncLayoutOfPairsAndPalindromes : Prop :=
  ∀ base pairs top : Nat, (base, pairs, top) = (0, 636, 1286) ∨ (base, pairs, top) = (1287, 36, 1364) →
    (∀ j : Nat, j < pairs →
      encRead (Fin.ofNat 1365 (base + 2 * j)) < encRead (Fin.ofNat 1365 (base + 2 * j + 1))
      ∧ encRead (Fin.ofNat 1365 (base + 2 * j + 1)) = rev13 (encRead (Fin.ofNat 1365 (base + 2 * j)))
      ∧ (j + 1 < pairs → encRead (Fin.ofNat 1365 (base + 2 * j)) < encRead (Fin.ofNat 1365 (base + 2 * j + 2))))
    ∧ (∀ n : Nat, base + 2 * pairs ≤ n → n ≤ top →
      rev13 (encRead (Fin.ofNat 1365 n)) = encRead (Fin.ofNat 1365 n)
      ∧ (n < top → encRead (Fin.ofNat 1365 (n + 1)) < encRead (Fin.ofNat 1365 n)))

/-- The family of a codeword by its index: popcount 5 below 1287 and 2 from there on (40_table_construction.md section
2). -/
def Obligations.FamilyByIndex : Prop :=
  ∀ k : Fin 1365, popcount13 (encRead k) = if k.val ≤ 1286 then 5 else 2

/-- The palindromes at their indices (the table of 40_table_construction.md section 2), and the digest of `ENC`: the sum
and the exclusive or of its entries, its first eight entries and the first five narrow ones. -/
def Obligations.PalindromesAndDigestOfEnc : Prop :=
  (List.range 15).map (fun n => (encRead (Fin.ofNat 1365 (1272 + n))).toNat)
    = [6211, 5189, 4681, 4433, 4321, 3142, 2634, 2386, 2274, 1612, 1364, 1252, 856, 744, 496]
  ∧ (List.range 6).map (fun n => (encRead (Fin.ofNat 1365 (1359 + n))).toNat) = [4097, 2050, 1028, 520, 272, 160]
  ∧ ((List.range 1365).map (fun n => (encRead (Fin.ofNat 1365 n)).toNat)).sum = 4152837
  ∧ (List.range 1365).foldl (fun a n => a ^^^ encRead (Fin.ofNat 1365 n)) 0#13 = 0x1FFF#13
  ∧ (List.range 8).map (fun n => (encRead (Fin.ofNat 1365 n)).toNat) = [31, 7936, 47, 7808, 55, 7552, 59, 7040]
  ∧ (List.range 5).map (fun n => (encRead (Fin.ofNat 1365 (1287 + n))).toNat) = [3, 6144, 5, 5120, 6]

/-- The reverse-complement law: the complement of a codeword's reversal has parity 1 and the index of the codeword's
partner, which is the codeword itself for a palindrome and its neighbour in the pair otherwise
(40_table_construction.md section 2). -/
def Obligations.ReverseComplementNamesThePartner : Prop :=
  ∀ k : Fin 1365,
    fcsRead (compl13 (rev13 (encRead k))) = true
    ∧ decRead (compl13 (rev13 (encRead k)))
        = some (BitVec.ofNat 11 (
            if (1272 ≤ k.val ∧ k.val ≤ 1286) ∨ 1359 ≤ k.val then k.val
            else if k.val < 1287 then (if k.val % 2 = 0 then k.val + 1 else k.val - 1)
            else (if (k.val - 1287) % 2 = 0 then k.val + 1 else k.val - 1)))

/-- Complement symmetry: a character and its complement have the same entry, and where there is one their parity bits
differ (41_lookup_operations.md section 4). -/
def Obligations.ComplementHasTheSameEntryAndOtherParity : Prop :=
  ∀ v : Character, decRead (compl13 v) = decRead v
    ∧ ((decRead v).isSome = true → fcsRead (compl13 v) = !fcsRead v)

/-- The functions on 13-bit values: reversal keeps the popcount and undoes itself, the complement has popcount 13 - n, and
the two commute (40_table_construction.md section 1). -/
def Obligations.ReversalAndComplementLaws : Prop :=
  ∀ v : Character,
    popcount13 (rev13 v) = popcount13 v ∧ rev13 (rev13 v) = v
    ∧ popcount13 (compl13 v) = 13 - popcount13 v ∧ rev13 (compl13 v) = compl13 (rev13 v)

/-! ## The assembler -/

/-- The pseudo-instructions of 30_encoding.md section 4. `IDLE n` is n samples with `rst` = 0 and `req_valid` = 0, `.word w` presents the raw
word, `DECC v` is `DEC (v ^ 0x1FFF)`, `RESET` is one sample with `rst` = 1; the inputs that the samples of `IDLE n`
and of `RESET` leave unsaid change nothing at their edge. -/
def Obligations.PseudoInstructionsExpand : Prop :=
  (∀ n : Nat, (lineSamples (.idle n)).length = n ∧ ∀ x ∈ lineSamples (.idle n), x.rst = false ∧ x.reqValid = false)
  ∧ (∀ w : Word, lineSamples (.word w.toNat) = [requestSample w])
  ∧ (∀ v : Character, lineSamples (.decc v.toNat) = [requestSample (0x4000#16 ||| (v ^^^ 0x1FFF#13).setWidth 16)])
  ∧ (∃ x : Sample, lineSamples .reset = [x] ∧ x.rst = true)
  ∧ (∀ (s : State) (x y : Sample) (xs : List Sample), lineSamples .reset = [x] → y.rst = true →
      step { s with inputs := x :: xs } = step { s with inputs := y :: xs })
  ∧ (∀ (n : Nat) (s : State) (x y : Sample) (xs : List Sample), x ∈ lineSamples (.idle n) →
      y.rst = false → y.reqValid = false →
      step { s with inputs := x :: xs } = step { s with inputs := y :: xs })
  ∧ parseLine ['I', 'D', 'L', 'E'] = some [.idle 1]

/-- The assembler refuses a program exactly when one of its lines has an operand out of range, and otherwise presents
the lines' samples in order; an ENC operand in [1365, 8191] is accepted (30_encoding.md section 4). That
`DECC`, `.word` and `IDLE` are refused outside their operands' ranges, as R51 says of a lookup, is the model's choice
(notes/assumptions/5.md). -/
def Obligations.AssemblerRefusesOperandsOutOfRange : Prop :=
  (∀ p : List AsmLine,
    (programSamples p = none ↔ ∃ l ∈ p, l.wf = false)
    ∧ ((∀ l ∈ p, l.wf = true) → programSamples p = some (p.flatMap lineSamples)))
  ∧ (∀ k : Nat, 1365 ≤ k → k ≤ 8191 →
      ∃ x : Sample, programSamples [.enc k] = some [x] ∧ x.rst = false ∧ x.reqValid = true
        ∧ (execute x.reqWord).2 = some .indexOutOfRange)
  ∧ (∀ k : Nat, 8191 < k → programSamples [.enc k] = none ∧ programSamples [.dec k] = none
      ∧ programSamples [.par k] = none ∧ programSamples [.decc k] = none)
end

