-- ==== Sys2Proof/Laws/Bits.lean ====
section
/-! SUPPORT. The functions of R9 bit by bit, as that rule defines them. -/

namespace Sys2Proof.Machine

theorem bitOf_eq_testBit (v i : Nat) : bitOf v i = (v.testBit i).toNat := by
  rw [Nat.toNat_testBit, ← Nat.shiftRight_eq_div_pow, ← Nat.and_one_is_mod]
  rfl

/-- `popcount13(v)` is the number of i in [0, 12] with v[i] = 1 (R9). -/
theorem popcount13_eq_countP (v : Character) : popcount13 v = (List.range 13).countP (fun i => v.getLsbD i) := by
  have count (b : Bool) : (if b = true then 1 else 0) = b.toNat := by cases b <;> rfl
  simp only [popcount13, onesBelow13, bitOf_eq_testBit, BitVec.testBit_toNat, Nat.add_eq,
    show List.range 13 = [0, 1, 2, 3, 4, 5, 6, 7, 8, 9, 10, 11, 12] from rfl, List.countP_cons, List.countP_nil, count]
  omega

/-- `rev13(v)[i] = v[12 - i]` (R9). -/
theorem rev13_getLsbD (v : Character) (i : Nat) (hi : i ≤ 12) : (rev13 v).getLsbD i = v.getLsbD (12 - i) := by
  have bit (n j : Nat) : decide (bitOf n j % 2 = 1) = n.testBit j := by
    rw [bitOf_eq_testBit]; cases n.testBit j <;> rfl
  have above (n j k : Nat) : Nat.testBit (bitOf n j) (k + 1) = false := by
    rw [bitOf_eq_testBit]; cases n.testBit j <;> simp [Nat.testBit_succ]
  rw [rev13, BitVec.getLsbD_ofNat, ← BitVec.testBit_toNat]
  interval_cases i <;> simp [mirrored13, bit, above]

/-- Bit i of the complement (R8). -/
theorem compl13_getLsbD (v : Character) (i : Nat) (hi : i ≤ 12) : (compl13 v).getLsbD i = !v.getLsbD i := by
  interval_cases i <;> simp [compl13]

@[simp] theorem compl13_compl13 (v : Character) : compl13 (compl13 v) = v := by
  simp [compl13]

end Sys2Proof.Machine
end

