-- ==== Sys2Proof/Laws/Construction.lean ====
section
/-! SUPPORT. The images of Sys2Proof/Machine/Rom.lean are what the construction leaves (spec/40_table_construction.md
rule R58, spec/20_memory.md rule R31): the kernel runs the two calls of `Build`. -/

namespace Sys2Proof.Machine

theorem constructedTables_eq_romContents : constructedTables = romContents := by decide +kernel

end Sys2Proof.Machine
end

