-- ==== Sys2Proof/Laws/Decode.lean ====
section
/-! SUPPORT. The fields of a request word, and the word its fields make: what proofs about decoding and encoding
cite instead of unfolding the fields. -/

namespace Sys2Proof

@[simp] theorem opField_requestWord (op : BitVec 2) (rsv : Bool) (arg : Character) :
    opField (requestWord op rsv arg) = op := by
  ext i hi
  cases rsv <;> interval_cases i <;> simp [opField, requestWord]

@[simp] theorem rsvBit_requestWord (op : BitVec 2) (rsv : Bool) (arg : Character) :
    rsvBit (requestWord op rsv arg) = rsv := by
  cases rsv <;> simp [rsvBit, requestWord]

@[simp] theorem argField_requestWord (op : BitVec 2) (rsv : Bool) (arg : Character) :
    argField (requestWord op rsv arg) = arg := by
  ext i hi
  cases rsv <;> interval_cases i <;> simp [argField, requestWord]

/-- A request word is its three fields (R42). -/
theorem requestWord_fields (w : Word) : requestWord (opField w) (rsvBit w) (argField w) = w := by
  ext i hi
  interval_cases i <;> simp [requestWord, opField, rsvBit, argField]

/-- The three top bits of a request word (the mask of R49) do not depend on its operand. -/
theorem requestWord_topBits (op : BitVec 2) (rsv : Bool) (arg : Character) :
    requestWord op rsv arg &&& 0xE000#16 = requestWord op rsv 0#13 := by
  have mask : ∀ i : Fin 16, (0xE000#16).getLsbD i.val = decide (13 ≤ i.val) := by decide
  apply BitVec.eq_of_getLsbD_eq
  intro i hi
  rw [BitVec.getLsbD_and, mask ⟨i, hi⟩]
  by_cases h : 13 ≤ i
  · simp [requestWord, h]
  · have : i < 13 ∧ i < 14 := by omega
    simp [requestWord, this]

end Sys2Proof
end

