-- ==== Sys2Proof/Laws/Flags.lean ====
section
/-! SUPPORT. The fields of a response word. -/

namespace Sys2Proof.Machine

@[simp] theorem hitFlag_response (h e p : Bool) (d : Character) : hitFlag (response h e p d) = h := by
  cases h <;> cases e <;> cases p <;> simp [hitFlag, response]

@[simp] theorem errFlag_response (h e p : Bool) (d : Character) : errFlag (response h e p d) = e := by
  cases h <;> cases e <;> cases p <;> simp [errFlag, response]

@[simp] theorem parFlag_response (h e p : Bool) (d : Character) : parFlag (response h e p d) = p := by
  cases h <;> cases e <;> cases p <;> simp [parFlag, response]

@[simp] theorem dataField_response (h e p : Bool) (d : Character) : dataField (response h e p d) = d := by
  ext i hi
  interval_cases i <;> cases h <;> cases e <;> cases p <;> simp [dataField, response]

end Sys2Proof.Machine
end

