-- ==== Sys2Proof/Laws/State.lean ====
section
/-! SUPPORT. Each named update of the state, field by field: what proofs cite instead of unfolding an update. -/

namespace Sys2Proof.Machine

@[simp] theorem respond_rspQ (r : Word) (s : State) : (respond r s).rspQ = r := rfl
@[simp] theorem respond_rspValidQ (r : Word) (s : State) : (respond r s).rspValidQ = true := rfl
@[simp] theorem respond_faultCauseQ (r : Word) (s : State) : (respond r s).faultCauseQ = s.faultCauseQ := rfl
@[simp] theorem respond_faultInfoQ (r : Word) (s : State) : (respond r s).faultInfoQ = s.faultInfoQ := rfl
@[simp] theorem respond_inputs (r : Word) (s : State) : (respond r s).inputs = s.inputs := rfl
@[simp] theorem respond_edgeNo (r : Word) (s : State) : (respond r s).edgeNo = s.edgeNo := rfl

@[simp] theorem idleEdge_rspQ (s : State) : (idleEdge s).rspQ = s.rspQ := rfl
@[simp] theorem idleEdge_rspValidQ (s : State) : (idleEdge s).rspValidQ = false := rfl
@[simp] theorem idleEdge_faultCauseQ (s : State) : (idleEdge s).faultCauseQ = s.faultCauseQ := rfl
@[simp] theorem idleEdge_faultInfoQ (s : State) : (idleEdge s).faultInfoQ = s.faultInfoQ := rfl
@[simp] theorem idleEdge_inputs (s : State) : (idleEdge s).inputs = s.inputs := rfl
@[simp] theorem idleEdge_edgeNo (s : State) : (idleEdge s).edgeNo = s.edgeNo := rfl

@[simp] theorem resetEdge_rspQ (s : State) : (resetEdge s).rspQ = 0x0000#16 := rfl
@[simp] theorem resetEdge_rspValidQ (s : State) : (resetEdge s).rspValidQ = false := rfl
@[simp] theorem resetEdge_faultCauseQ (s : State) : (resetEdge s).faultCauseQ = 0#2 := rfl
@[simp] theorem resetEdge_faultInfoQ (s : State) : (resetEdge s).faultInfoQ = 0x0000#16 := rfl
@[simp] theorem resetEdge_inputs (s : State) : (resetEdge s).inputs = s.inputs := rfl
@[simp] theorem resetEdge_edgeNo (s : State) : (resetEdge s).edgeNo = s.edgeNo := rfl

@[simp] theorem takeSample_rspQ (s : State) : (takeSample s).rspQ = s.rspQ := rfl
@[simp] theorem takeSample_rspValidQ (s : State) : (takeSample s).rspValidQ = s.rspValidQ := rfl
@[simp] theorem takeSample_faultCauseQ (s : State) : (takeSample s).faultCauseQ = s.faultCauseQ := rfl
@[simp] theorem takeSample_faultInfoQ (s : State) : (takeSample s).faultInfoQ = s.faultInfoQ := rfl
@[simp] theorem takeSample_inputs (s : State) : (takeSample s).inputs = s.inputs.tail := rfl
@[simp] theorem takeSample_edgeNo (s : State) : (takeSample s).edgeNo = s.edgeNo + 1 := rfl

@[simp] theorem presentSamples_rspQ (xs : List Sample) (s : State) : (presentSamples xs s).rspQ = s.rspQ := rfl
@[simp] theorem presentSamples_rspValidQ (xs : List Sample) (s : State) :
    (presentSamples xs s).rspValidQ = s.rspValidQ := rfl
@[simp] theorem presentSamples_faultCauseQ (xs : List Sample) (s : State) :
    (presentSamples xs s).faultCauseQ = s.faultCauseQ := rfl
@[simp] theorem presentSamples_faultInfoQ (xs : List Sample) (s : State) :
    (presentSamples xs s).faultInfoQ = s.faultInfoQ := rfl
@[simp] theorem presentSamples_inputs (xs : List Sample) (s : State) : (presentSamples xs s).inputs = xs := rfl
@[simp] theorem presentSamples_edgeNo (xs : List Sample) (s : State) : (presentSamples xs s).edgeNo = s.edgeNo := rfl

@[simp] theorem nextSample_of_cons (s : State) (x : Sample) (xs : List Sample) (h : s.inputs = x :: xs) :
    nextSample s = x := by
  simp [nextSample, h]

@[simp] theorem nextSample_presentWord (w : Word) (s : State) : nextSample (presentWord w s) = requestSample w := rfl

@[simp] theorem takeSample_presentWord (w : Word) (s : State) : takeSample (presentWord w s) = takeSample s := rfl

end Sys2Proof.Machine
end

