-- ==== Sys2Proof/Laws/Ops.lean ====
section
/-! SUPPORT. One lemma for each shared operation: all it can do. -/

namespace Sys2Proof.Machine

/-- No fault: nothing is captured (R95). -/
@[simp] theorem captureFault_none (w : Word) (s : State) : captureFault none w s = s := rfl

/-- The first fault since reset is captured (R95). -/
theorem captureFault_first (c : Cause) (w : Word) (s : State) (h : s.faultCauseQ = 0#2) :
    captureFault (some c) w s = { s with faultCauseQ := c.code, faultInfoQ := w } := by
  simp [captureFault, h]

/-- A later fault changes nothing (R95, R99). -/
theorem captureFault_later (f : Option Cause) (w : Word) (s : State) (h : s.faultCauseQ ≠ 0#2) :
    captureFault f w s = s := by
  cases f <;> simp [captureFault, h]

@[simp] theorem captureFault_rspQ (f : Option Cause) (w : Word) (s : State) : (captureFault f w s).rspQ = s.rspQ := by
  unfold captureFault; split <;> (try split) <;> rfl

@[simp] theorem captureFault_rspValidQ (f : Option Cause) (w : Word) (s : State) :
    (captureFault f w s).rspValidQ = s.rspValidQ := by
  unfold captureFault; split <;> (try split) <;> rfl

@[simp] theorem captureFault_inputs (f : Option Cause) (w : Word) (s : State) :
    (captureFault f w s).inputs = s.inputs := by
  unfold captureFault; split <;> (try split) <;> rfl

@[simp] theorem captureFault_edgeNo (f : Option Cause) (w : Word) (s : State) :
    (captureFault f w s).edgeNo = s.edgeNo := by
  unfold captureFault; split <;> (try split) <;> rfl

/-- A cause code is never 00 (R93). -/
theorem code_ne_zero (c : Cause) : c.code ≠ 0#2 := by cases c <;> decide

/-- An index in range reads its entry (R80). -/
theorem encResult_inRange (k : Character) (h : k.toNat ≤ 1364) :
    encResult k = (response true false false (encRead ⟨k.toNat, Nat.lt_succ_of_le h⟩), none) := by
  simp [encResult, indexOperand, h]

/-- An index out of range is a fault (R80). -/
theorem encResult_outOfRange (k : Character) (h : 1365 ≤ k.toNat) :
    encResult k = (response false true false 0#13, some .indexOutOfRange) := by
  simp [encResult, indexOperand, show ¬ k.toNat ≤ 1364 by omega]

/-- A DEC hit (R81). -/
theorem decResult_hit (v : Character) (i : Index) (h : decRead v = some i) :
    decResult v = (response true false (fcsRead v) (zextIndex i), none) := by
  simp [decResult, characterOperand, h]

/-- A DEC miss (R81). -/
theorem decResult_miss (v : Character) (h : decRead v = none) :
    decResult v = (response false false false (zextIndex absentIndex), none) := by
  simp [decResult, characterOperand, h]

/-- A PAR hit (R82). -/
theorem parResult_hit (v : Character) (i : Index) (h : decRead v = some i) :
    parResult v = (response true false (fcsRead v) 0#13, none) := by
  simp [parResult, characterOperand, h]

/-- A PAR miss (R82). -/
theorem parResult_miss (v : Character) (h : decRead v = none) :
    parResult v = (response false false false 0#13, none) := by
  simp [parResult, characterOperand, h]

/-- The result of a request that is decoded already. -/
def resultOf (i : Instr) : Word × Option Cause :=
  match i with
  | .enc k => encResult k
  | .dec v => decResult v
  | .par v => parResult v
  | .illegalRsv _ _ => illegalResult
  | .illegalOp _ => illegalResult

theorem execute_eq_resultOf (w : Word) : execute w = resultOf (decode w) := by
  unfold execute resultOf; cases decode w <;> rfl

/-- Every request is accepted, with its result and its word (R85). -/
theorem exec_eq_accept (i : Instr) (s : State) : exec i s = .next (acceptRequest (resultOf i) (encode i) s) := by
  cases i <;> rfl

/-- The three things an edge can do (R85). -/
theorem clockEdge_cases (x : Sample) (s : State) :
    (x.rst = true ∧ clockEdge x s = .next (resetEdge s))
    ∨ (x.rst = false ∧ x.reqValid = true ∧ clockEdge x s = exec (decode x.reqWord) s)
    ∨ (x.rst = false ∧ x.reqValid = false ∧ clockEdge x s = .next (idleEdge s)) := by
  cases hr : x.rst <;> cases hv : x.reqValid <;> simp [clockEdge, hr, hv]

end Sys2Proof.Machine
end

