-- ==== Sys2Proof/Laws/PerInstr.lean ====
section
/-! SUPPORT. A family of facts about requests as syntax, one lemma per constructor: the encoded word has the fixed
bits of the request's own row of spec/opcode_table.json. -/

namespace Sys2Proof.Laws.RowMatch

/-- The mask of a request's row. -/
def mask (i : Instr) : Word :=
  match i with
  | .enc _ => 0xE000#16
  | .dec _ => 0xE000#16
  | .par _ => 0xE000#16
  | .illegalRsv _ _ => 0x2000#16
  | .illegalOp _ => 0xC000#16

/-- The match of a request's row. -/
def fixedBits (i : Instr) : Word :=
  match i with
  | .enc _ => 0x0000#16
  | .dec _ => 0x4000#16
  | .par _ => 0x8000#16
  | .illegalRsv _ _ => 0x2000#16
  | .illegalOp _ => 0xC000#16

/-- The encoded word, under the row's mask, is the row's match (R49; the reserved rows are those of R46). -/
def Statement (i : Instr) : Prop := encode i &&& mask i = fixedBits i

theorem enc (k : Character) : Statement (.enc k) := by
  unfold Statement; ext i hi
  interval_cases i <;> simp [encode, requestWord, mask, fixedBits]

theorem dec (v : Character) : Statement (.dec v) := by
  unfold Statement; ext i hi
  interval_cases i <;> simp [encode, requestWord, mask, fixedBits]

theorem par (v : Character) : Statement (.par v) := by
  unfold Statement; ext i hi
  interval_cases i <;> simp [encode, requestWord, mask, fixedBits]

theorem illegalRsv (op : BitVec 2) (arg : Character) : Statement (.illegalRsv op arg) := by
  unfold Statement; ext i hi
  interval_cases i <;> simp [encode, requestWord, mask, fixedBits]

theorem illegalOp (arg : Character) : Statement (.illegalOp arg) := by
  unfold Statement; ext i hi
  interval_cases i <;> simp [encode, requestWord, mask, fixedBits]

end Sys2Proof.Laws.RowMatch
end

