-- ==== Sys2Proof/Laws/Tables.lean ====
section
/-! SUPPORT. The memories: a read after a write, the stored form of a DEC entry, and a way to check a claim about
all characters by one kernel evaluation. -/

namespace Sys2Proof.Machine

/-- A write leaves the width alone. -/
@[simp] theorem write_width (r : Rom) (a x : Nat) : (r.write a x).width = r.width := rfl

/-- Bit i of entry a. -/
theorem read_testBit (r : Rom) (a i : Nat) :
    (r.read a).testBit i = (decide (i < r.width) && r.image.testBit (r.width * a + i)) := by
  simp [Rom.read, Nat.testBit_mod_two_pow, Nat.testBit_shiftRight]

/-- Two entries do not overlap. -/
theorem entry_apart (w a b i j : Nat) (hi : i < w) (hj : j < w) (h : w * a + i = w * b + j) : a = b := by
  have h1 : (w * a + i) / w = a := by rw [Nat.mul_add_div (by omega), Nat.div_eq_of_lt hi, Nat.add_zero]
  have h2 : (w * b + j) / w = b := by rw [Nat.mul_add_div (by omega), Nat.div_eq_of_lt hj, Nat.add_zero]
  rw [← h1, h, h2]

/-- A read after a write to the same entry gives what was written. -/
theorem read_write_same (r : Rom) (a x : Nat) (h : x < 2 ^ r.width) : (r.write a x).read a = x := by
  apply Nat.eq_of_testBit_eq
  intro i
  rw [read_testBit]
  by_cases hi : i < r.width
  · simp [Rom.write, Nat.testBit_shiftLeft, read_testBit, hi, Nat.mod_eq_of_lt h]
  · simp [hi, Nat.testBit_lt_two_pow (Nat.lt_of_lt_of_le h (Nat.pow_le_pow_right (by omega) (by omega : r.width ≤ i)))]

/-- A write leaves every other entry alone. -/
theorem read_write_other (r : Rom) (a b x : Nat) (h : a ≠ b) : (r.write a x).read b = r.read b := by
  apply Nat.eq_of_testBit_eq
  intro i
  rw [read_testBit, read_testBit]
  by_cases hi : i < r.width
  · by_cases hle : r.width * a ≤ r.width * b + i
    · have hw : r.width ≤ r.width * b + i - r.width * a := by
        by_contra hlt
        exact h (entry_apart r.width a b (r.width * b + i - r.width * a) i (by omega) hi (by omega))
      simp [Rom.write, Nat.testBit_shiftLeft, hi, read_testBit, Nat.testBit_mod_two_pow,
        show ¬ r.width * b + i - r.width * a < r.width by omega]
    · simp [Rom.write, Nat.testBit_shiftLeft, hi, hle]
  · simp [hi]

/-- The stored word of an entry stands for it (R16). -/
@[simp] theorem decEntry_decEntryWord (e : Option Index) : decEntry (decEntryWord e) = e := by
  cases e with
  | none => decide
  | some k =>
    have h : (decEntryWord (some k)).getLsbD 11 = true := by simp [decEntryWord]
    have hk : (decEntryWord (some k)).extractLsb' 0 11 = k := by
      ext i hi
      interval_cases i <;> simp [decEntryWord]
    simp only [decEntry, h, hk, if_true]

/-- A claim about all characters, from one evaluation over the numbers 0 to 8191. -/
theorem forall_character (p : Character → Bool) (h : (List.range 8192).all (fun n => p (BitVec.ofNat 13 n)) = true)
    (v : Character) : p v = true := by
  have := List.all_eq_true.mp h v.toNat (List.mem_range.mpr v.isLt)
  simpa using this

/-- A claim about all codeword indices, from one evaluation over the numbers 0 to 1364. -/
theorem forall_index (p : Fin 1365 → Bool) (h : (List.range 1365).all (fun n => p (Fin.ofNat 1365 n)) = true)
    (k : Fin 1365) : p k = true := by
  have := List.all_eq_true.mp h k.val (List.mem_range.mpr k.isLt)
  simpa using this

end Sys2Proof.Machine
end

