-- ==== Sys2Proof/Tests/Slice0.lean ====
section
/-! SUPPORT. The model's own tests. Expected values come from spec/95_test_vectors.md, from the rules' examples, or are
written out from the encodings of spec/30_encoding.md; each section says which. The last section shows, for each
statement with hypotheses, a state and operands that meet them. -/

namespace Sys2Proof.Tests

open Sys2Proof Sys2Proof.Machine

/-- The block after reset, with a client that presents these samples. -/
def client (xs : List Sample) : State := presentSamples xs State.reset

/-- The same, with an INDEX_OUT_OF_RANGE of `ENC 1365` recorded. -/
def faulted (xs : List Sample) : State := { client xs with faultCauseQ := 2#2, faultInfoQ := 0x0555#16 }

/-- An edge without a request. -/
def idle : Sample := { rst := false, reqValid := false, reqWord := 0xC000#16 }

/-- A reset edge under which a reserved word is presented. -/
def resetPresenting : Sample := { rst := true, reqValid := true, reqWord := 0xC000#16 }

/-- What a step leaves, when it answers a next state. -/
def nextOf (o : Host.Outcome State Fault Refusal) : Option State :=
  match o with
  | .next s => some s
  | .fault _ => none
  | .refused _ => none

/-- The four registers a step leaves. -/
def registersAfter (s : State) : Option (Bool × Word × BitVec 2 × Word) :=
  (nextOf (step s)).map fun t => (t.rspValidQ, t.rspQ, t.faultCauseQ, t.faultInfoQ)

/-! ## Well-formedness: one ill-formed line for each check (R51, R52) -/

theorem test_wf_refuses_enc_8192 : (AsmLine.enc 8192).wf = false := by decide
theorem test_wf_refuses_dec_8192 : (AsmLine.dec 8192).wf = false := by decide
theorem test_wf_refuses_par_8192 : (AsmLine.par 8192).wf = false := by decide
theorem test_wf_refuses_decc_8192 : (AsmLine.decc 8192).wf = false := by decide
theorem test_wf_refuses_word_65536 : (AsmLine.word 65536).wf = false := by decide
theorem test_wf_refuses_idle_0 : (AsmLine.idle 0).wf = false := by decide
theorem test_wf_accepts_enc_8191 : (AsmLine.enc 8191).wf = true := by decide
theorem test_wf_accepts_every_request_kind :
    (Instr.enc 0x1FFF#13).wf && (Instr.dec 0#13).wf && (Instr.par 0#13).wf && (Instr.illegalRsv 0#2 0#13).wf
      && (Instr.illegalOp 0#13).wf = true := by decide

/-! ## Decoding: words written out from the patterns of R49 and of the reserved rows -/

theorem test_decode_enc : decode 0b0000010101010100#16 = .enc 1364#13 := by decide
theorem test_decode_dec : decode 0b0101111111100000#16 = .dec 8160#13 := by decide
theorem test_decode_par : decode 0b1000000000011111#16 = .par 31#13 := by decide
theorem test_decode_rsv_on_dec : decode 0b0110000000011111#16 = .illegalRsv 1#2 31#13 := by decide
theorem test_decode_rsv_before_op : decode 0b1111111111111111#16 = .illegalRsv 3#2 8191#13 := by decide
theorem test_decode_op_11 : decode 0b1101111111111111#16 = .illegalOp 8191#13 := by decide
theorem test_decode_table_word : decodeTableWord 16 0x401F = some (.dec 31#13) := by decide
theorem test_decode_table_word_short : decodeTableWord 8 0x41FF = some (.enc 255#13) := by decide
theorem test_decode_table_word_too_long : decodeTableWord 32 0x401F = none := by decide

/-! ## One edge per test, expected values from spec/95_test_vectors.md sections 3 and 4 -/

theorem test_enc_1272 : registersAfter (client [requestSample 0x04F8#16]) = some (true, 0x9843#16, 0#2, 0#16) := by
  decide
theorem test_enc_1365_faults :
    registersAfter (client [requestSample 0x0555#16]) = some (true, 0x4000#16, 2#2, 0x0555#16) := by decide
theorem test_dec_2047 : registersAfter (client [requestSample 0x47FF#16]) = some (true, 0xA508#16, 0#2, 0#16) := by
  decide
theorem test_dec_63_misses : registersAfter (client [requestSample 0x403F#16]) = some (true, 0x07FF#16, 0#2, 0#16) := by
  decide
theorem test_par_8188 : registersAfter (client [requestSample 0x9FFC#16]) = some (true, 0xA000#16, 0#2, 0#16) := by
  decide
theorem test_par_63_misses : registersAfter (client [requestSample 0x803F#16]) = some (true, 0x0000#16, 0#2, 0#16) := by
  decide
theorem test_rsv_on_par_31 :
    registersAfter (client [requestSample 0xA01F#16]) = some (true, 0x4000#16, 1#2, 0xA01F#16) := by decide
theorem test_op_11_after_a_fault :
    registersAfter (faulted [requestSample 0xC000#16]) = some (true, 0x4000#16, 2#2, 0x0555#16) := by decide
theorem test_idle_holds :
    registersAfter { faulted [idle] with rspQ := 0x80A0#16, rspValidQ := true }
      = some (false, 0x80A0#16, 2#2, 0x0555#16) := by decide
theorem test_reset_drops_the_request :
    registersAfter { faulted [resetPresenting] with rspQ := 0x9F00#16, rspValidQ := true }
      = some (false, 0x0000#16, 0#2, 0x0000#16) := by decide
theorem test_fetch_word_runs_first :
    registersAfter (State.reset.withFetchWord 16 0x5F5F) = some (true, 0xA554#16, 0#2, 0#16) := by decide
theorem test_outputs_after_a_fault :
    outputs (faulted []) = ⟨true, false, 0x0000#16, true, 2#2, 0x0555#16⟩ := by decide

/-! ## The tables: the full ENC table of spec/95_test_vectors.md section 2, and worked examples of section 1.4 -/

/-- ENC[0] to ENC[104] of spec/95_test_vectors.md section 2. -/
def specEnc0 : List Nat :=
  [31, 7936, 47, 7808, 55, 7552, 59, 7040, 61, 6016, 62, 3968, 79, 7744, 87, 7488, 91, 6976, 93, 5952, 94,
   3904, 103, 7360, 107, 6848, 109, 5824, 110, 3776, 115, 6592, 117, 5568, 118, 3520, 121, 5056, 122, 3008, 124, 1984,
   143, 7712, 151, 7456, 155, 6944, 157, 5920, 158, 3872, 167, 7328, 171, 6816, 173, 5792, 174, 3744, 179, 6560, 181,
   5536, 182, 3488, 185, 5024, 186, 2976, 188, 1952, 199, 7264, 203, 6752, 205, 5728, 206, 3680, 211, 6496, 213, 5472,
   214, 3424, 217, 4960, 218, 2912, 220, 1888, 227, 6368, 229, 5344, 230, 3296, 233, 4832, 234, 2784, 236, 1760, 241]

/-- ENC[105] to ENC[209] of spec/95_test_vectors.md section 2. -/
def specEnc1 : List Nat :=
  [4576, 242, 2528, 244, 1504, 248, 992, 271, 7696, 279, 7440, 283, 6928, 285, 5904, 286, 3856, 295, 7312, 299, 6800,
   301, 5776, 302, 3728, 307, 6544, 309, 5520, 310, 3472, 313, 5008, 314, 2960, 316, 1936, 327, 7248, 331, 6736, 333,
   5712, 334, 3664, 339, 6480, 341, 5456, 342, 3408, 345, 4944, 346, 2896, 348, 1872, 355, 6352, 357, 5328, 358, 3280,
   361, 4816, 362, 2768, 364, 1744, 369, 4560, 370, 2512, 372, 1488, 376, 976, 391, 7216, 395, 6704, 397, 5680, 398,
   3632, 403, 6448, 405, 5424, 406, 3376, 409, 4912, 410, 2864, 412, 1840, 419, 6320, 421, 5296, 422, 3248, 425, 4784]

/-- ENC[210] to ENC[314] of spec/95_test_vectors.md section 2. -/
def specEnc2 : List Nat :=
  [426, 2736, 428, 1712, 433, 4528, 434, 2480, 436, 1456, 440, 944, 451, 6256, 453, 5232, 454, 3184, 457, 4720, 458,
   2672, 460, 1648, 465, 4464, 466, 2416, 468, 1392, 472, 880, 481, 4336, 482, 2288, 484, 1264, 488, 752, 527, 7688,
   535, 7432, 539, 6920, 541, 5896, 542, 3848, 551, 7304, 555, 6792, 557, 5768, 558, 3720, 563, 6536, 565, 5512, 566,
   3464, 569, 5000, 570, 2952, 572, 1928, 583, 7240, 587, 6728, 589, 5704, 590, 3656, 595, 6472, 597, 5448, 598, 3400,
   601, 4936, 602, 2888, 604, 1864, 611, 6344, 613, 5320, 614, 3272, 617, 4808, 618, 2760, 620, 1736, 625, 4552, 626]

/-- ENC[315] to ENC[419] of spec/95_test_vectors.md section 2. -/
def specEnc3 : List Nat :=
  [2504, 628, 1480, 632, 968, 647, 7208, 651, 6696, 653, 5672, 654, 3624, 659, 6440, 661, 5416, 662, 3368, 665, 4904,
   666, 2856, 668, 1832, 675, 6312, 677, 5288, 678, 3240, 681, 4776, 682, 2728, 684, 1704, 689, 4520, 690, 2472, 692,
   1448, 696, 936, 707, 6248, 709, 5224, 710, 3176, 713, 4712, 714, 2664, 716, 1640, 721, 4456, 722, 2408, 724, 1384,
   728, 872, 737, 4328, 738, 2280, 740, 1256, 775, 7192, 779, 6680, 781, 5656, 782, 3608, 787, 6424, 789, 5400, 790,
   3352, 793, 4888, 794, 2840, 796, 1816, 803, 6296, 805, 5272, 806, 3224, 809, 4760, 810, 2712, 812, 1688, 817, 4504]

/-- ENC[420] to ENC[524] of spec/95_test_vectors.md section 2. -/
def specEnc4 : List Nat :=
  [818, 2456, 820, 1432, 824, 920, 835, 6232, 837, 5208, 838, 3160, 841, 4696, 842, 2648, 844, 1624, 849, 4440, 850,
   2392, 852, 1368, 865, 4312, 866, 2264, 868, 1240, 899, 6200, 901, 5176, 902, 3128, 905, 4664, 906, 2616, 908, 1592,
   913, 4408, 914, 2360, 916, 1336, 929, 4280, 930, 2232, 932, 1208, 961, 4216, 962, 2168, 964, 1144, 1039, 7684, 1047,
   7428, 1051, 6916, 1053, 5892, 1054, 3844, 1063, 7300, 1067, 6788, 1069, 5764, 1070, 3716, 1075, 6532, 1077, 5508, 1078, 3460,
   1081, 4996, 1082, 2948, 1084, 1924, 1095, 7236, 1099, 6724, 1101, 5700, 1102, 3652, 1107, 6468, 1109, 5444, 1110, 3396, 1113]

/-- ENC[525] to ENC[629] of spec/95_test_vectors.md section 2. -/
def specEnc5 : List Nat :=
  [4932, 1114, 2884, 1116, 1860, 1123, 6340, 1125, 5316, 1126, 3268, 1129, 4804, 1130, 2756, 1132, 1732, 1137, 4548, 1138, 2500,
   1140, 1476, 1159, 7204, 1163, 6692, 1165, 5668, 1166, 3620, 1171, 6436, 1173, 5412, 1174, 3364, 1177, 4900, 1178, 2852, 1180,
   1828, 1187, 6308, 1189, 5284, 1190, 3236, 1193, 4772, 1194, 2724, 1196, 1700, 1201, 4516, 1202, 2468, 1204, 1444, 1219, 6244,
   1221, 5220, 1222, 3172, 1225, 4708, 1226, 2660, 1228, 1636, 1233, 4452, 1234, 2404, 1236, 1380, 1249, 4324, 1250, 2276, 1287,
   7188, 1291, 6676, 1293, 5652, 1294, 3604, 1299, 6420, 1301, 5396, 1302, 3348, 1305, 4884, 1306, 2836, 1308, 1812, 1315, 6292]

/-- ENC[630] to ENC[734] of spec/95_test_vectors.md section 2. -/
def specEnc6 : List Nat :=
  [1317, 5268, 1318, 3220, 1321, 4756, 1322, 2708, 1324, 1684, 1329, 4500, 1330, 2452, 1332, 1428, 1347, 6228, 1349, 5204, 1350,
   3156, 1353, 4692, 1354, 2644, 1356, 1620, 1361, 4436, 1362, 2388, 1377, 4308, 1378, 2260, 1411, 6196, 1413, 5172, 1414, 3124,
   1417, 4660, 1418, 2612, 1420, 1588, 1425, 4404, 1426, 2356, 1441, 4276, 1442, 2228, 1473, 4212, 1474, 2164, 1543, 7180, 1547,
   6668, 1549, 5644, 1550, 3596, 1555, 6412, 1557, 5388, 1558, 3340, 1561, 4876, 1562, 2828, 1564, 1804, 1571, 6284, 1573, 5260,
   1574, 3212, 1577, 4748, 1578, 2700, 1580, 1676, 1585, 4492, 1586, 2444, 1603, 6220, 1605, 5196, 1606, 3148, 1609, 4684, 1610]

/-- ENC[735] to ENC[839] of spec/95_test_vectors.md section 2. -/
def specEnc7 : List Nat :=
  [2636, 1617, 4428, 1618, 2380, 1633, 4300, 1634, 2252, 1667, 6188, 1669, 5164, 1670, 3116, 1673, 4652, 1674, 2604, 1681, 4396,
   1682, 2348, 1697, 4268, 1698, 2220, 1729, 4204, 1730, 2156, 1795, 6172, 1797, 5148, 1798, 3100, 1801, 4636, 1802, 2588, 1809,
   4380, 1810, 2332, 1825, 4252, 1826, 2204, 1857, 4188, 1858, 2140, 1921, 4156, 1922, 2108, 2063, 7682, 2071, 7426, 2075, 6914,
   2077, 5890, 2078, 3842, 2087, 7298, 2091, 6786, 2093, 5762, 2094, 3714, 2099, 6530, 2101, 5506, 2102, 3458, 2105, 4994, 2106,
   2946, 2119, 7234, 2123, 6722, 2125, 5698, 2126, 3650, 2131, 6466, 2133, 5442, 2134, 3394, 2137, 4930, 2138, 2882, 2147, 6338]

/-- ENC[840] to ENC[944] of spec/95_test_vectors.md section 2. -/
def specEnc8 : List Nat :=
  [2149, 5314, 2150, 3266, 2153, 4802, 2154, 2754, 2161, 4546, 2162, 2498, 2183, 7202, 2187, 6690, 2189, 5666, 2190, 3618, 2195,
   6434, 2197, 5410, 2198, 3362, 2201, 4898, 2202, 2850, 2211, 6306, 2213, 5282, 2214, 3234, 2217, 4770, 2218, 2722, 2225, 4514,
   2226, 2466, 2243, 6242, 2245, 5218, 2246, 3170, 2249, 4706, 2250, 2658, 2257, 4450, 2258, 2402, 2273, 4322, 2311, 7186, 2315,
   6674, 2317, 5650, 2318, 3602, 2323, 6418, 2325, 5394, 2326, 3346, 2329, 4882, 2330, 2834, 2339, 6290, 2341, 5266, 2342, 3218,
   2345, 4754, 2346, 2706, 2353, 4498, 2354, 2450, 2371, 6226, 2373, 5202, 2374, 3154, 2377, 4690, 2378, 2642, 2385, 4434, 2401]

/-- ENC[945] to ENC[1049] of spec/95_test_vectors.md section 2. -/
def specEnc9 : List Nat :=
  [4306, 2435, 6194, 2437, 5170, 2438, 3122, 2441, 4658, 2442, 2610, 2449, 4402, 2465, 4274, 2497, 4210, 2567, 7178, 2571, 6666,
   2573, 5642, 2574, 3594, 2579, 6410, 2581, 5386, 2582, 3338, 2585, 4874, 2586, 2826, 2595, 6282, 2597, 5258, 2598, 3210, 2601,
   4746, 2602, 2698, 2609, 4490, 2627, 6218, 2629, 5194, 2630, 3146, 2633, 4682, 2641, 4426, 2657, 4298, 2691, 6186, 2693, 5162,
   2694, 3114, 2697, 4650, 2705, 4394, 2721, 4266, 2753, 4202, 2819, 6170, 2821, 5146, 2822, 3098, 2825, 4634, 2833, 4378, 2849,
   4250, 2881, 4186, 2945, 4154, 3079, 7174, 3083, 6662, 3085, 5638, 3086, 3590, 3091, 6406, 3093, 5382, 3094, 3334, 3097, 4870]

/-- ENC[1050] to ENC[1154] of spec/95_test_vectors.md section 2. -/
def specEnc10 : List Nat :=
  [3107, 6278, 3109, 5254, 3110, 3206, 3113, 4742, 3121, 4486, 3139, 6214, 3141, 5190, 3145, 4678, 3153, 4422, 3169, 4294, 3203,
   6182, 3205, 5158, 3209, 4646, 3217, 4390, 3233, 4262, 3265, 4198, 3331, 6166, 3333, 5142, 3337, 4630, 3345, 4374, 3361, 4246,
   3393, 4182, 3457, 4150, 3587, 6158, 3589, 5134, 3593, 4622, 3601, 4366, 3617, 4238, 3649, 4174, 3713, 4142, 3841, 4126, 4111,
   7681, 4119, 7425, 4123, 6913, 4125, 5889, 4135, 7297, 4139, 6785, 4141, 5761, 4147, 6529, 4149, 5505, 4153, 4993, 4167, 7233,
   4171, 6721, 4173, 5697, 4179, 6465, 4181, 5441, 4185, 4929, 4195, 6337, 4197, 5313, 4201, 4801, 4209, 4545, 4231, 7201, 4235]

/-- ENC[1155] to ENC[1259] of spec/95_test_vectors.md section 2. -/
def specEnc11 : List Nat :=
  [6689, 4237, 5665, 4243, 6433, 4245, 5409, 4249, 4897, 4259, 6305, 4261, 5281, 4265, 4769, 4273, 4513, 4291, 6241, 4293, 5217,
   4297, 4705, 4305, 4449, 4359, 7185, 4363, 6673, 4365, 5649, 4371, 6417, 4373, 5393, 4377, 4881, 4387, 6289, 4389, 5265, 4393,
   4753, 4401, 4497, 4419, 6225, 4421, 5201, 4425, 4689, 4483, 6193, 4485, 5169, 4489, 4657, 4615, 7177, 4619, 6665, 4621, 5641,
   4627, 6409, 4629, 5385, 4633, 4873, 4643, 6281, 4645, 5257, 4649, 4745, 4675, 6217, 4677, 5193, 4739, 6185, 4741, 5161, 4867,
   6169, 4869, 5145, 5127, 7173, 5131, 6661, 5133, 5637, 5139, 6405, 5141, 5381, 5155, 6277, 5157, 5253, 5187, 6213, 5251, 6181]

/-- ENC[1260] to ENC[1364] of spec/95_test_vectors.md section 2. -/
def specEnc12 : List Nat :=
  [5379, 6165, 5635, 6157, 6151, 7171, 6155, 6659, 6163, 6403, 6179, 6275, 6211, 5189, 4681, 4433, 4321, 3142, 2634, 2386, 2274,
   1612, 1364, 1252, 856, 744, 496, 3, 6144, 5, 5120, 6, 3072, 9, 4608, 10, 2560, 12, 1536, 17, 4352, 18,
   2304, 20, 1280, 24, 768, 33, 4224, 34, 2176, 36, 1152, 40, 640, 48, 384, 65, 4160, 66, 2112, 68, 1088,
   72, 576, 80, 320, 96, 192, 129, 4128, 130, 2080, 132, 1056, 136, 544, 144, 288, 257, 4112, 258, 2064, 260,
   1040, 264, 528, 513, 4104, 514, 2056, 516, 1032, 1025, 4100, 1026, 2052, 2049, 4098, 4097, 2050, 1028, 520, 272, 160]

/-- The ENC table as the spec prints it. -/
def specEnc : List Nat :=
  specEnc0 ++ specEnc1 ++ specEnc2 ++ specEnc3 ++ specEnc4 ++ specEnc5 ++ specEnc6
    ++ specEnc7 ++ specEnc8 ++ specEnc9 ++ specEnc10 ++ specEnc11 ++ specEnc12

theorem test_enc_table_of_the_spec :
    (List.range 1365).map (fun n => (encRead (Fin.ofNat 1365 n)).toNat) = specEnc := by decide +kernel

theorem test_reverse_complement_of_31 :
    rev13 31#13 = 7936#13 ∧ compl13 (rev13 31#13) = 255#13 ∧ decRead 255#13 = some 1#11 ∧ fcsRead 255#13 = true := by
  decide

theorem test_popcounts : popcount13 0x1FFF#13 = 13 ∧ popcount13 63#13 = 6 ∧ popcount13 6211#13 = 5 := by decide

/-! ## The assembler (R51, R52): lines of the programs of spec/95_test_vectors.md section 4 -/

theorem test_assemble_decc_31 :
    parseLine ['D', 'E', 'C', 'C', ' ', '3', '1', ' ', ';', '0'] = some [.decc 31]
      ∧ lineSamples (.decc 31) = [requestSample 0x5FE0#16] := by decide
theorem test_assemble_word_hexadecimal :
    assemble ['.', 'w', 'o', 'r', 'd', ' ', '0', 'x', 'C', '0', '0', '0', '\n', 'e', 'n', 'C', '\t', '0', 'b', '1', '0']
      = some [requestSample 0xC000#16, requestSample 0x0002#16] := by decide
theorem test_assemble_idle_and_reset :
    assemble ['R', 'E', 'S', 'E', 'T', '\n', 'I', 'D', 'L', 'E', ' ', '2', '\n', ';', '\n', 'P', 'A', 'R', ' ', '3']
      = some [resetSample, idleSample, idleSample, requestSample 0x8003#16] := by decide
theorem test_assemble_refuses_8192 : assemble ['D', 'E', 'C', ' ', '8', '1', '9', '2'] = none := by decide
theorem test_assemble_refuses_no_operand : assemble ['D', 'E', 'C'] = none := by decide
theorem test_assemble_refuses_bad_digit : assemble ['D', 'E', 'C', ' ', '0', 'b', '2'] = none := by decide

/-! ## Witnesses: the hypotheses of the statements are met, clause by clause -/

theorem witness_DecodeOfEncodeIsTheRequest : (Instr.illegalRsv 3#2 8191#13).wf = true := by decide

theorem witness_DecodingIsTotalWithReservedBitFirst :
    (0x2000#16).getLsbD 13 = true
    ∧ ((0xC000#16).getLsbD 13 = false ∧ (0xC000#16).toNat / 2 ^ 14 = 3)
    ∧ ((0x0555#16).getLsbD 13 = false ∧ (0x0555#16).toNat / 2 ^ 14 = 0 ∧ 1365 ≤ (0x0555#16).toNat % 2 ^ 13)
    ∧ ((0x4000#16).getLsbD 13 = false ∧ (0x4000#16).toNat / 2 ^ 14 = 1)
    ∧ ((0x9FFF#16).getLsbD 13 = false ∧ (0x9FFF#16).toNat / 2 ^ 14 = 2) := by decide

theorem witness_LookupsMatchMaskAndMatch :
    decode 0x1FFF#16 = .enc 8191#13 ∧ decode 0x4000#16 = .dec 0#13 ∧ decode 0x9FFF#16 = .par 8191#13 := by decide

theorem witness_StepRunsTheDecodedRequest :
    (client [requestSample 0x401F#16]).inputs = requestSample 0x401F#16 :: []
    ∧ (requestSample 0x401F#16).rst = false ∧ (requestSample 0x401F#16).reqValid = true := by decide

theorem witness_StepFollowsTheCycleRule :
    ((client [resetPresenting]).inputs = resetPresenting :: [] ∧ resetPresenting.rst = true)
    ∧ ((client [requestSample 0#16]).inputs = requestSample 0#16 :: []
        ∧ (requestSample 0#16).rst = false ∧ (requestSample 0#16).reqValid = true)
    ∧ ((client [idle]).inputs = idle :: [] ∧ idle.rst = false ∧ idle.reqValid = false) := by decide

theorem witness_ResponseValidAfterAcceptanceOnly : ∃ t, step (client [requestSample 0x401F#16]) = .next t := ⟨_, rfl⟩

theorem witness_IdleEdgeHoldsTheRegisters :
    (client [idle]).inputs = idle :: [] ∧ idle.rst = false ∧ idle.reqValid = false := by decide

theorem witness_SecondRequestOverwritesTheResponse :
    (client [requestSample 0#16, requestSample 1#16]).inputs = requestSample 0#16 :: requestSample 1#16 :: []
    ∧ (client [requestSample 0#16, idle]).inputs = requestSample 0#16 :: idle :: []
    ∧ idle.rst = false ∧ idle.reqValid = false := by decide

theorem witness_IgnoredInputsChangeNothing :
    (resetPresenting.rst = true ∧ resetSample.rst = true)
    ∧ (idle.rst = false ∧ idleSample.rst = false ∧ idle.reqValid = false ∧ idleSample.reqValid = false) := by decide

theorem witness_FirstRequestAfterResetStartsAfresh :
    (faulted [resetPresenting, requestSample 0x401F#16]).inputs = resetPresenting :: requestSample 0x401F#16 :: []
    ∧ resetPresenting.rst = true ∧ (execute 0x401F#16).2 = none
    ∧ (execute 0xC000#16).2 = some .illegalRequest := by decide

theorem witness_ResetGivesTheResetValues :
    (faulted [resetPresenting]).inputs = resetPresenting :: [] ∧ resetPresenting.rst = true := by decide

theorem witness_EncGivesTheCodewordOrAnIndexFault :
    (1364#13 : Character).toNat < 1365 ∧ 1365 ≤ (1365#13 : Character).toNat := by decide

theorem witness_DecGivesTheIndexAndParityOrAMiss :
    constructedTables.decAt 160#13 = some 1364#11 ∧ constructedTables.decAt 0x1FFF#13 = none
    ∧ popcount13 0x1FFF#13 ∉ [2, 5, 8, 11] ∧ hitFlag (execute (encode (.dec 160#13))).1 = true
    ∧ hitFlag (execute (encode (.dec 0x1FFF#13))).1 = false := by
  rw [constructedTables_eq_romContents]; decide

theorem witness_ParGivesTheParityOrAMiss : (constructedTables.decAt 0#13).isSome = false := by
  rw [constructedTables_eq_romContents]; decide

theorem witness_ReservedWordsGiveAnIllegalRequest :
    (0x2000#16).getLsbD 13 = true ∧ ((0xC000#16).getLsbD 15 = true ∧ (0xC000#16).getLsbD 14 = true)
    ∧ State.reset.faultCauseQ = 0#2 := by decide

theorem witness_EncInRangeCompletes : (1364#13 : Character).toNat < 1365 := by decide

theorem witness_EncOutOfRangeCompletes : 1365 ≤ (1365#13 : Character).toNat := by decide

theorem witness_MissIsNotAFault : decRead 0#13 = none := by decide

theorem witness_RequestsChangeOnlyResponseAndFirstFault :
    (∃ t, exec (.enc 1364#13) State.reset = .next t) ∧ (execute (encode (.enc 1364#13))).2 = none
    ∧ (∃ t, exec (.illegalOp 0#13) (faulted []) = .next t) ∧ (faulted []).faultCauseQ ≠ 0#2 :=
  ⟨⟨_, rfl⟩, by decide, ⟨_, rfl⟩, by decide⟩

theorem witness_DecInvertsEnc :
    fieldsOf (execute (encode (.enc (BitVec.ofNat 13 1364)))).1 = (true, false, false, 160#13)
    ∧ (client [requestSample (encode (.dec 160#13)), requestSample (encode (.dec (compl13 160#13)))]).inputs
        = requestSample (encode (.dec 160#13)) :: requestSample (encode (.dec (compl13 160#13))) :: [] := by decide

theorem witness_SingleBitNeighboursOfHits : (decRead 31#13).isSome = true := by decide

theorem witness_FirstFaultIsCapturedWithItsWord :
    (execute 0x401F#16).2 = none ∧ (execute 0xC000#16).2 = some .illegalRequest
    ∧ (execute 0x0555#16).2 = some .indexOutOfRange ∧ State.reset.faultCauseQ = 0#2
    ∧ (faulted []).faultCauseQ ≠ 0#2 := by decide

theorem witness_OnlyResetClearsARecordedFault :
    ((∃ t, step (faulted [requestSample 0xC000#16]) = .next t) ∧ (faulted [requestSample 0xC000#16]).faultCauseQ ≠ 0#2
      ∧ (nextSample (faulted [requestSample 0xC000#16])).rst = false
      ∧ (nextSample (faulted [requestSample 0xC000#16])).reqValid = true
      ∧ (execute (nextSample (faulted [requestSample 0xC000#16])).reqWord).2 ≠ none)
    ∧ ((∃ t, step (faulted [resetPresenting]) = .next t) ∧ (faulted [resetPresenting]).faultCauseQ ≠ 0#2
      ∧ (nextSample (faulted [resetPresenting])).rst = true) :=
  ⟨⟨⟨_, rfl⟩, by decide⟩, ⟨⟨_, rfl⟩, by decide⟩⟩

theorem witness_ResetThenIllegalThenIndex :
    (client [⟨true, true, 0xC000#16⟩]).inputs = ⟨true, true, 0xC000#16⟩ :: []
    ∧ (0x2000#16).getLsbD 13 = true ∧ (0xC000#16).toNat / 2 ^ 14 = 3 ∧ (0xDFFF#16).toNat / 2 ^ 14 = 3
    ∧ (execute 0x0555#16).2 = some .indexOutOfRange := by decide

theorem witness_FaultOutputRisesAndStaysUntilReset :
    ((∃ t, step (client [requestSample 0xC000#16]) = .next t)
      ∧ (nextSample (client [requestSample 0xC000#16])).rst = false
      ∧ (nextSample (client [requestSample 0xC000#16])).reqValid = true
      ∧ (execute (nextSample (client [requestSample 0xC000#16])).reqWord).2 ≠ none)
    ∧ ((∃ t, step (faulted [idle]) = .next t) ∧ (nextSample (faulted [idle])).rst = false
      ∧ (outputs (faulted [idle])).fault = true)
    ∧ ((∃ t, step (faulted [resetPresenting]) = .next t) ∧ (nextSample (faulted [resetPresenting])).rst = true) :=
  ⟨⟨⟨_, rfl⟩, by decide⟩, ⟨⟨_, rfl⟩, by decide⟩, ⟨⟨_, rfl⟩, by decide⟩⟩

theorem witness_EveryStepKeepsTheRegisterInvariant :
    (client [requestSample 0x0555#16]).Inv ∧ ∃ t, step (client [requestSample 0x0555#16]) = .next t :=
  ⟨by decide, ⟨_, rfl⟩⟩

theorem witness_ResetEdgeEstablishesTheRegisterInvariant :
    (nextSample (faulted [resetPresenting])).rst = true ∧ ∃ t, step (faulted [resetPresenting]) = .next t :=
  ⟨by decide, ⟨_, rfl⟩⟩

theorem witness_RunRecordsTheFirstFaultSinceTheLastReset :
    resetPresenting.rst = true
    ∧ firstFault [resetPresenting, requestSample 0x0555#16, requestSample 0xC000#16] = some (.indexOutOfRange, 0x0555#16)
    ∧ firstFault [resetPresenting, requestSample 0x0555#16, resetPresenting] = none := by decide

theorem witness_RunAnswersEachRequestByItsOwnWord :
    [requestSample 0x0555#16, requestSample 0x401F#16][1]? = some (requestSample 0x401F#16) := by decide

theorem witness_PlaceEntersTheCodewordAndItsComplement :
    initialTables.enc.width = 13 ∧ initialTables.dec.width = 12 ∧ initialTables.fcs.width = 1
    ∧ (0#13 : Character) ≠ 31#13 ∧ (0#13 : Character) ≠ compl13 31#13 ∧ (1 : Fin 1365) ≠ 0 := by decide

theorem witness_ParityIsZeroWhereNoEntryIs : constructedTables.decAt 0#13 = none := by
  rw [constructedTables_eq_romContents]; decide

theorem witness_DecIsTheInverseOfEnc : decRead 8031#13 = some 1364#11 ∧ encRead 0 = encRead 0 := by decide

theorem witness_EncLayoutOfPairsAndPalindromes :
    (((0, 636, 1286) : Nat × Nat × Nat) = (0, 636, 1286) ∧ 635 < 636 ∧ 0 + 2 * 636 ≤ 1286)
    ∧ (((1287, 36, 1364) : Nat × Nat × Nat) = (1287, 36, 1364) ∧ 35 < 36 ∧ 1287 + 2 * 36 ≤ 1364) := by decide

theorem witness_ComplementHasTheSameEntryAndOtherParity : (decRead 255#13).isSome = true := by decide

theorem witness_PseudoInstructionsExpand :
    idleSample ∈ lineSamples (.idle 1) ∧ lineSamples .reset = [resetSample] ∧ resetPresenting.rst = true
    ∧ (⟨false, false, 0xFFFF#16⟩ : Sample).rst = false ∧ (⟨false, false, 0xFFFF#16⟩ : Sample).reqValid = false := by decide

theorem witness_AssemblerRefusesOperandsOutOfRange :
    (AsmLine.enc 8191).wf = true ∧ 1365 ≤ 1365 ∧ 1365 ≤ 8191 ∧ 8191 < 8192 := by decide

end Sys2Proof.Tests
end

section
/-! Proofs about the response-valid register (spec/10_state.md rules R19 and R26). -/

namespace Sys2Proof.Machine

@[simp] theorem acceptRequest_rspValidQ (result : Word × Option Cause) (w : Word) (s : State) :
    (acceptRequest result w s).rspValidQ = true := by
  simp [acceptRequest]

/-- R19 for one edge under any sample: `rsp_valid_q` tells whether the edge accepted a request. -/
theorem clockEdge_rspValidQ {x : Sample} {s t : State} (h : clockEdge x s = .next t) :
    t.rspValidQ = true ↔ x.rst = false ∧ x.reqValid = true := by
  obtain ⟨hrst, hedge⟩ | ⟨hrst, hvalid, hedge⟩ | ⟨hrst, hvalid, hedge⟩ := clockEdge_cases x s
  · obtain rfl : resetEdge s = t := by simpa [hedge] using h
    simp [hrst]
  · obtain rfl : acceptRequest _ _ s = t := by simpa [hedge, exec_eq_accept] using h
    simp [hrst, hvalid]
  · obtain rfl : idleEdge s = t := by simpa [hedge] using h
    simp [hvalid]

/-- Settles O11: of the three things an edge can do, only accepting a request raises `rsp_valid_q`. -/
theorem responseValidAfterAcceptanceOnly : Obligations.ResponseValidAfterAcceptanceOnly := by
  unfold Obligations.ResponseValidAfterAcceptanceOnly
  exact ⟨rfl, fun _ => rfl, fun _ _ hstep => clockEdge_rspValidQ hstep⟩

end Sys2Proof.Machine
end

section
/-! Proofs about the tables that the construction leaves (spec/40_table_construction.md rules R57 and R58): what a
`Place` does to an entry of DEC and of FCS, and an induction over the `Place`s of the construction. -/

namespace Sys2Proof.Machine

/-- A one-bit memory holds only 0 and 1. -/
theorem read_lt_two {r : Rom} (hwidth : r.width = 1) (a : Nat) : r.read a < 2 := by
  have hlt : r.read a < 2 ^ r.width := Nat.mod_lt _ (Nat.two_pow_pos _)
  simpa [hwidth] using hlt

/-- The stored word that a DEC memory gives after an entry is written. -/
theorem read_write_decEntryWord {r : Rom} (hwidth : r.width = 12) (c v : Character) (e : Option Index) :
    (r.write c.toNat (decEntryWord e).toNat).read v.toNat
      = if v = c then (decEntryWord e).toNat else r.read v.toNat := by
  by_cases hvc : v = c
  · have hfits : (decEntryWord e).toNat < 2 ^ r.width := by rw [hwidth]; exact (decEntryWord e).isLt
    simp [hvc, read_write_same r _ _ hfits]
  · have hne : c.toNat ≠ v.toNat := fun h => hvc (BitVec.eq_of_toNat_eq h).symm
    simp [hvc, read_write_other r _ _ _ hne]

/-- `Place(c, k)` enters `k` in DEC at the codeword and at its complement, and nowhere else (R57). -/
theorem decAt_place {t : Tables} (hwidth : t.dec.width = 12) (c : Character) (k : Nat) (v : Character) :
    (place c k t).decAt v = if v = c ∨ v = compl13 c then some (BitVec.ofNat 11 k) else t.decAt v := by
  have hwidth' : (t.dec.write c.toNat (decEntryWord (some (BitVec.ofNat 11 k))).toNat).width = 12 := hwidth
  unfold Tables.decAt place
  rw [read_write_decEntryWord hwidth', read_write_decEntryWord hwidth]
  by_cases hc : v = c <;> by_cases hcompl : v = compl13 c <;> simp [hc, hcompl]

/-- `Place(c, k)` leaves FCS alone away from the codeword and its complement (R57). -/
theorem fcsAt_place_other (t : Tables) (k : Nat) {c v : Character} (hc : v ≠ c) (hcompl : v ≠ compl13 c) :
    (place c k t).fcsAt v = t.fcsAt v := by
  have hc' : c.toNat ≠ v.toNat := fun h => hc (BitVec.eq_of_toNat_eq h).symm
  have hcompl' : (compl13 c).toNat ≠ v.toNat := fun h => hcompl (BitVec.eq_of_toNat_eq h).symm
  simp only [Tables.fcsAt, place, read_write_other _ _ _ _ hcompl', read_write_other _ _ _ _ hc']

/-- What every `Place` keeps, the loop of `Build` keeps: it writes the tables by `Place` alone. -/
theorem buildLoop_keeps {P : Tables → Prop} (hplace : ∀ c k t, P t → P (place c k t)) (n : Nat) (xs : List Nat) :
    ∀ low high t, P t → P (buildLoop n xs low high t).tables := by
  induction xs with
  | nil => exact fun _ _ _ ht => ht
  | cons x xs ih =>
    intro low high t ht
    simp only [buildLoop]
    split
    · split
      · exact ih _ _ _ (hplace _ _ _ ht)
      · split
        · exact ih _ _ _ (hplace _ _ _ (hplace _ _ _ ht))
        · exact ih _ _ _ ht
    · exact ih _ _ _ ht

/-- What holds of the initial tables and is kept by every `Place` holds of the tables that R58 constructs. -/
theorem constructedTables_induction {P : Tables → Prop} (hinit : P initialTables)
    (hplace : ∀ c k t, P t → P (place c k t)) : P constructedTables :=
  buildLoop_keeps hplace _ _ _ _ _ (buildLoop_keeps hplace _ _ _ _ _ hinit)

/-- The invariant of the construction behind R17: a parity of 1 stands only at an address that has a DEC entry. The
width makes a DEC entry readable as it was written. -/
structure ParityOnlyAtEntries (t : Tables) : Prop where
  decWidth : t.dec.width = 12
  parityZero : ∀ v : Character, t.decAt v = none → t.fcsAt v = false

/-- Before construction every parity is 0 (R56). -/
theorem initialTables_parityOnlyAtEntries : ParityOnlyAtEntries initialTables where
  decWidth := rfl
  parityZero v _ := by simp [Tables.fcsAt, initialTables, Rom.read]

/-- `Place` writes a parity only where it enters an index. -/
theorem place_keeps_parityOnlyAtEntries (c : Character) (k : Nat) (t : Tables) (ht : ParityOnlyAtEntries t) :
    ParityOnlyAtEntries (place c k t) where
  decWidth := ht.decWidth
  parityZero v hnone := by
    rw [decAt_place ht.decWidth] at hnone
    split at hnone
    case isTrue => contradiction
    case isFalse hother =>
      obtain ⟨hc, hcompl⟩ := not_or.mp hother
      rw [fcsAt_place_other t k hc hcompl]
      exact ht.parityZero v hnone

/-- Settles O48: FCS has one-bit entries, and every `Place` of the construction keeps the parity 0 where DEC is
absent. -/
theorem parityIsZeroWhereNoEntryIs : Obligations.ParityIsZeroWhereNoEntryIs := by
  unfold Obligations.ParityIsZeroWhereNoEntryIs
  have hparity : ParityOnlyAtEntries constructedTables :=
    constructedTables_induction initialTables_parityOnlyAtEntries place_keeps_parityOnlyAtEntries
  exact fun v => ⟨read_lt_two rfl _, hparity.parityZero v⟩

end Sys2Proof.Machine
end

section
/-! Proofs about decoding (spec/30_encoding.md rules R45 and R49): one equation for each line of `Decode`, its five
cases, and the three top bits of a word as its fields `op` and `rsv`. -/

namespace Sys2Proof

open Machine

theorem opField_toNat (w : Word) : (opField w).toNat = w.toNat / 2 ^ 14 := by
  have hop : w.toNat / 2 ^ 14 < 2 ^ 2 := Nat.div_lt_of_lt_mul w.isLt
  rw [opField, BitVec.extractLsb'_toNat, Nat.shiftRight_eq_div_pow, Nat.mod_eq_of_lt hop]

theorem argField_toNat (w : Word) : (argField w).toNat = w.toNat % 2 ^ 13 := by
  rw [argField, BitVec.extractLsb'_toNat, Nat.shiftRight_zero]

/-- The value of bits 15:14 says what the field `op` is (R42). -/
theorem opField_eq_of_div {w : Word} {op : BitVec 2} (hop : w.toNat / 2 ^ 14 = op.toNat) : opField w = op :=
  BitVec.eq_of_toNat_eq ((opField_toNat w).trans hop)

/-! The five lines of `Decode` (R45). -/

section
variable {w : Word}

theorem decode_of_rsv (hrsv : rsvBit w = true) : decode w = .illegalRsv (opField w) (argField w) := by
  simp [decode, hrsv]

theorem decode_of_op_three (hrsv : rsvBit w = false) (hop : opField w = 3#2) :
    decode w = .illegalOp (argField w) := by
  simp [decode, hrsv, hop]

theorem decode_of_op_zero (hrsv : rsvBit w = false) (hop : opField w = 0#2) : decode w = .enc (argField w) := by
  simp [decode, hrsv, hop]

theorem decode_of_op_one (hrsv : rsvBit w = false) (hop : opField w = 1#2) : decode w = .dec (argField w) := by
  simp [decode, hrsv, hop]

theorem decode_of_op_two (hrsv : rsvBit w = false) (hop : opField w = 2#2) : decode w = .par (argField w) := by
  simp [decode, hrsv, hop]

end

/-- Decoding is total: the fields `rsv` and `op` of every word choose one of the five lines of `Decode` (R45). -/
theorem decode_cases (w : Word) :
    (rsvBit w = true ∧ decode w = .illegalRsv (opField w) (argField w))
    ∨ (rsvBit w = false ∧ opField w = 3#2 ∧ decode w = .illegalOp (argField w))
    ∨ (rsvBit w = false ∧ opField w = 0#2 ∧ decode w = .enc (argField w))
    ∨ (rsvBit w = false ∧ opField w = 1#2 ∧ decode w = .dec (argField w))
    ∨ (rsvBit w = false ∧ opField w = 2#2 ∧ decode w = .par (argField w)) := by
  have fourValues : ∀ op : BitVec 2, op = 3#2 ∨ op = 0#2 ∨ op = 1#2 ∨ op = 2#2 := by decide
  cases hrsv : rsvBit w with
  | true => exact .inl ⟨rfl, decode_of_rsv hrsv⟩
  | false =>
    obtain hop | hop | hop | hop := fourValues (opField w)
    · exact .inr (.inl ⟨rfl, hop, decode_of_op_three hrsv hop⟩)
    · exact .inr (.inr (.inl ⟨rfl, hop, decode_of_op_zero hrsv hop⟩))
    · exact .inr (.inr (.inr (.inl ⟨rfl, hop, decode_of_op_one hrsv hop⟩)))
    · exact .inr (.inr (.inr (.inr ⟨rfl, hop, decode_of_op_two hrsv hop⟩)))

/-- Settles O3: each clause is one line of `Decode`, and the fault is that of the decoded request. -/
theorem decodingIsTotalWithReservedBitFirst : Obligations.DecodingIsTotalWithReservedBitFirst := by
  unfold Obligations.DecodingIsTotalWithReservedBitFirst
  intro w
  refine ⟨fun hrsv => ?_, fun hrsv hop => ?_, fun hrsv hop => ?_, fun hrsv hop => ?_, fun hrsv hop => ?_⟩
  · have hdecode := decode_of_rsv hrsv
    exact ⟨hdecode, by rw [execute_eq_resultOf, hdecode]; rfl⟩
  · have hdecode := decode_of_op_three hrsv (opField_eq_of_div hop)
    exact ⟨hdecode, by rw [execute_eq_resultOf, hdecode]; rfl⟩
  · have hdecode := decode_of_op_zero hrsv (opField_eq_of_div hop)
    refine ⟨hdecode, fun hrange => ?_⟩
    rw [← argField_toNat] at hrange
    rw [execute_eq_resultOf, hdecode, resultOf, encResult_outOfRange _ hrange]
  · exact decode_of_op_one hrsv (opField_eq_of_div hop)
  · exact decode_of_op_two hrsv (opField_eq_of_div hop)

/-- The bits of a word under the mask of R49 are its fields `op` and `rsv`. -/
theorem topBits_eq_iff (w : Word) (op : BitVec 2) (rsv : Bool) :
    w &&& 0xE000#16 = requestWord op rsv 0#13 ↔ opField w = op ∧ rsvBit w = rsv := by
  have htop : w &&& 0xE000#16 = requestWord (opField w) (rsvBit w) 0#13 := by
    conv_lhs => rw [← requestWord_fields w, requestWord_topBits]
  rw [htop]
  constructor
  · intro hwords
    exact ⟨by simpa using congrArg opField hwords, by simpa using congrArg rsvBit hwords⟩
  · rintro ⟨rfl, rfl⟩
    rfl

/-- The match of ENC (R49). -/
theorem topBits_eq_encMatch_iff (w : Word) : w &&& 0xE000#16 = 0x0000#16 ↔ opField w = 0#2 ∧ rsvBit w = false :=
  topBits_eq_iff w 0#2 false

/-- The match of DEC (R49). -/
theorem topBits_eq_decMatch_iff (w : Word) : w &&& 0xE000#16 = 0x4000#16 ↔ opField w = 1#2 ∧ rsvBit w = false :=
  topBits_eq_iff w 1#2 false

/-- The match of PAR (R49). -/
theorem topBits_eq_parMatch_iff (w : Word) : w &&& 0xE000#16 = 0x8000#16 ↔ opField w = 2#2 ∧ rsvBit w = false :=
  topBits_eq_iff w 2#2 false

/-- Settles O4: the three matches are the fields `op` and `rsv` that `Decode` tests, so each of its five cases decides
every clause. -/
theorem lookupsMatchMaskAndMatch : Obligations.LookupsMatchMaskAndMatch := by
  unfold Obligations.LookupsMatchMaskAndMatch
  intro w
  have harg : (argField w).toNat = w.toNat % 8192 := argField_toNat w
  simp only [ne_eq, topBits_eq_encMatch_iff, topBits_eq_decMatch_iff, topBits_eq_parMatch_iff]
  obtain ⟨hrsv, hdecode⟩ | ⟨hrsv, hop, hdecode⟩ | ⟨hrsv, hop, hdecode⟩ | ⟨hrsv, hop, hdecode⟩ | ⟨hrsv, hop, hdecode⟩
    := decode_cases w
  · simp [hrsv, hdecode]
  · simp [hrsv, hop, hdecode]
  · simp [hrsv, hop, hdecode, harg]
  · simp [hrsv, hop, hdecode, harg]
  · simp [hrsv, hop, hdecode, harg]

end Sys2Proof
end

section
/-! Proofs about one edge (spec/41_lookup_operations.md rules R79 and R85): decoding and encoding undo each other, the
result of an encoded request, and the three effects of an edge. -/

namespace Sys2Proof

/-- Encoding the decoded request gives the word back: its three fields are all that it holds (R42). -/
@[simp] theorem encode_decode (w : Word) : encode (decode w) = w := by
  have hfields := requestWord_fields w
  obtain ⟨hrsv, hdecode⟩ | ⟨hrsv, hop, hdecode⟩ | ⟨hrsv, hop, hdecode⟩ | ⟨hrsv, hop, hdecode⟩ | ⟨hrsv, hop, hdecode⟩
    := decode_cases w
  · rwa [hdecode, encode, ← hrsv]
  all_goals rwa [hdecode, encode, ← hrsv, ← hop]

/-- Decoding gives an encoded request back: the five rows have different fields `op` and `rsv` (R45, R49). -/
@[simp] theorem decode_encode (i : Instr) : decode (encode i) = i := by
  cases i <;> simp [encode, decode]

namespace Machine

@[simp] theorem execute_encode (i : Instr) : execute (encode i) = resultOf i := by
  rw [execute_eq_resultOf, decode_encode]

/-- Performing the request of a word accepts it with the result of `Execute` and with the word itself (R79, R85). -/
theorem exec_decode (w : Word) (s : State) : exec (decode w) s = .next (acceptRequest (execute w) w s) := by
  rw [exec_eq_accept, encode_decode, execute_eq_resultOf]

/-- A step applies the listed sample that comes first (R120). -/
theorem step_of_cons {s : State} {x : Sample} {xs : List Sample} (hinputs : s.inputs = x :: xs) :
    step s = clockEdge x { s with inputs := xs, edgeNo := s.edgeNo + 1 } := by
  simp [step, takeSample, nextSample_of_cons s x xs hinputs, hinputs]

section
variable {x : Sample} (s : State)

theorem clockEdge_of_reset (hrst : x.rst = true) : clockEdge x s = .next (resetEdge s) := by
  simp [clockEdge, hrst]

theorem clockEdge_of_request (hrst : x.rst = false) (hvalid : x.reqValid = true) :
    clockEdge x s = .next (acceptRequest (execute x.reqWord) x.reqWord s) := by
  simp [clockEdge, hrst, hvalid, exec_decode]

theorem clockEdge_of_idle (hrst : x.rst = false) (hvalid : x.reqValid = false) :
    clockEdge x s = .next (idleEdge s) := by
  simp [clockEdge, hrst, hvalid]

end

/-- Settles O9: its clauses are the three effects of an edge, applied to the listed sample. -/
theorem stepFollowsTheCycleRule : Obligations.StepFollowsTheCycleRule := by
  unfold Obligations.StepFollowsTheCycleRule
  intro s x xs hinputs
  rw [step_of_cons hinputs]
  exact ⟨fun hrst => clockEdge_of_reset _ hrst, fun hrst hvalid => clockEdge_of_request _ hrst hvalid,
    fun hrst hvalid => clockEdge_of_idle _ hrst hvalid⟩

end Machine

end Sys2Proof
end

section
/-! Proofs about the reserved words (spec/41_lookup_operations.md rule R83). -/

namespace Sys2Proof

/-- Bits 15 and 14 are the field `op` (R42). -/
theorem opField_eq_three {w : Word} (h15 : w.getLsbD 15 = true) (h14 : w.getLsbD 14 = true) : opField w = 3#2 := by
  ext i hi
  interval_cases i <;> simp [opField, h14, h15]

namespace Machine

@[simp] theorem fieldsOf_response (hit err par : Bool) (data : Character) :
    fieldsOf (response hit err par data) = (hit, err, par, data) := by
  simp [fieldsOf]

theorem execute_of_reserved {w : Word} (h : rsvBit w = true ∨ opField w = 3#2) : execute w = illegalResult := by
  rw [execute_eq_resultOf]
  cases hrsv : rsvBit w with
  | true => rw [decode_of_rsv hrsv, resultOf]
  | false =>
    have hop : opField w = 3#2 := by simpa [hrsv] using h
    rw [decode_of_op_three hrsv hop, resultOf]

/-- Settles O21: every reserved word has the one result of R83, and the first fault records its cause. -/
theorem reservedWordsGiveAnIllegalRequest : Obligations.ReservedWordsGiveAnIllegalRequest := by
  unfold Obligations.ReservedWordsGiveAnIllegalRequest
  refine ⟨fun w hreserved => ?_, by decide, by decide, by decide, fun s => ?_⟩
  · have hresult : execute w = illegalResult :=
      execute_of_reserved (hreserved.imp_right fun ⟨h15, h14⟩ => opField_eq_three h15 h14)
    simp [hresult, illegalResult]
  · have hresult : execute 0xC000#16 = (0x4000#16, some .illegalRequest) := by decide
    refine ⟨_, exec_decode _ s, by simp [acceptRequest, hresult], fun hcause => ?_⟩
    simp [acceptRequest, hresult, captureFault_first _ _ (respond _ s) hcause, Cause.code]

end Machine

end Sys2Proof
end

section
/-! Proofs about ENC (spec/41_lookup_operations.md rule R80). -/

namespace Sys2Proof.Machine

/-! The block reads the tables of the construction (R31, R58). -/

@[simp] theorem encAt_constructedTables (k : Fin 1365) : constructedTables.encAt k = encRead k := by
  rw [constructedTables_eq_romContents, encRead]

@[simp] theorem decAt_constructedTables (v : Character) : constructedTables.decAt v = decRead v := by
  rw [constructedTables_eq_romContents, decRead]

@[simp] theorem fcsAt_constructedTables (v : Character) : constructedTables.fcsAt v = fcsRead v := by
  rw [constructedTables_eq_romContents, fcsRead]

/-- The family of a codeword by its index (R72), evaluated on the contents of ENC. -/
theorem popcount13_encRead (k : Fin 1365) : popcount13 (encRead k) = if k.val ≤ 1286 then 5 else 2 := by
  simpa using forall_index (fun k => popcount13 (encRead k) == if k.val ≤ 1286 then 5 else 2) (by decide +kernel) k

/-- Settles O18: in range the response holds the entry, whose popcount is that of its family; out of range it is the
fault of R80. -/
theorem encGivesTheCodewordOrAnIndexFault : Obligations.EncGivesTheCodewordOrAnIndexFault := by
  unfold Obligations.EncGivesTheCodewordOrAnIndexFault
  refine ⟨fun k hrange => ?_, fun k hrange => ?_, by decide, by decide, by decide, by decide, by decide, by decide,
    by decide⟩
  · have hresult : execute (encode (.enc k)) = (response true false false (encRead ⟨k.toNat, hrange⟩), none) := by
      rw [execute_encode, resultOf, encResult_inRange k (by omega)]
    simp [hresult, popcount13_encRead]
  · have hresult : execute (encode (.enc k)) = (response false true false 0#13, some .indexOutOfRange) := by
      rw [execute_encode, resultOf, encResult_outOfRange k hrange]
    simp [hresult]

end Sys2Proof.Machine
end

section
/-! Proofs about DEC and PAR (spec/41_lookup_operations.md rules R81, R82 and R84): their results as functions of the
two table entries, and how the entries of a character and of its complement are related. -/

namespace Sys2Proof.Machine

theorem compl13_ne (v : Character) : compl13 v ≠ v := by
  intro h
  have hbit := compl13_getLsbD v 0 (by omega)
  simp [h] at hbit

@[simp] theorem compl13_inj {u v : Character} : compl13 u = compl13 v ↔ u = v :=
  ⟨fun h => by simpa using congrArg compl13 h, congrArg compl13⟩

theorem compl13_eq_iff {u v : Character} : compl13 u = v ↔ u = compl13 v := by
  rw [← compl13_inj, compl13_compl13]

/-- `Place(c, k)` writes the parity 0 at the codeword (R57). -/
theorem fcsAt_place_codeword {t : Tables} (hwidth : t.fcs.width = 1) (c : Character) (k : Nat) :
    (place c k t).fcsAt c = false := by
  have hne : (compl13 c).toNat ≠ c.toNat := fun h => compl13_ne c (BitVec.eq_of_toNat_eq h)
  simp [Tables.fcsAt, place, read_write_other _ _ _ _ hne, read_write_same, hwidth]

/-- `Place(c, k)` writes the parity 1 at the codeword's complement (R57). -/
theorem fcsAt_place_complement {t : Tables} (hwidth : t.fcs.width = 1) (c : Character) (k : Nat) :
    (place c k t).fcsAt (compl13 c) = true := by
  simp [Tables.fcsAt, place, read_write_same, hwidth]

/-- The invariant of the construction behind R89: a character and its complement have the same DEC entry, and opposite
parities where there is one. The widths make the entries readable as they were written. -/
structure ComplementSymmetric (t : Tables) : Prop where
  decWidth : t.dec.width = 12
  fcsWidth : t.fcs.width = 1
  sameEntry : ∀ v : Character, t.decAt (compl13 v) = t.decAt v
  otherParity : ∀ v : Character, (t.decAt v).isSome = true → t.fcsAt (compl13 v) = !t.fcsAt v

/-- Before construction no character has an entry (R56). -/
theorem decAt_initialTables (v : Character) : initialTables.decAt v = none := by
  simpa using forall_character (fun v => (initialTables.decAt v).isNone) (by decide +kernel) v

theorem initialTables_complementSymmetric : ComplementSymmetric initialTables where
  decWidth := rfl
  fcsWidth := rfl
  sameEntry v := by simp [decAt_initialTables]
  otherParity v hentry := by simp [decAt_initialTables] at hentry

/-- `Place` enters the same index at a codeword and at its complement, with opposite parities. -/
theorem place_keeps_complementSymmetric (c : Character) (k : Nat) (t : Tables) (ht : ComplementSymmetric t) :
    ComplementSymmetric (place c k t) where
  decWidth := ht.decWidth
  fcsWidth := ht.fcsWidth
  sameEntry v := by
    simp only [decAt_place ht.decWidth, ht.sameEntry, compl13_eq_iff, compl13_compl13, or_comm]
  otherParity v hentry := by
    by_cases hc : v = c
    · rw [hc, fcsAt_place_codeword ht.fcsWidth, fcsAt_place_complement ht.fcsWidth, Bool.not_false]
    by_cases hcompl : v = compl13 c
    · rw [hcompl, compl13_compl13, fcsAt_place_codeword ht.fcsWidth, fcsAt_place_complement ht.fcsWidth, Bool.not_true]
    have hold : (t.decAt v).isSome = true := by simpa [decAt_place ht.decWidth, hc, hcompl] using hentry
    rw [fcsAt_place_other t k hc hcompl, ← ht.otherParity v hold]
    exact fcsAt_place_other t k (mt compl13_eq_iff.mp hcompl) (mt compl13_inj.mp hc)

theorem constructedTables_complementSymmetric : ComplementSymmetric constructedTables :=
  constructedTables_induction initialTables_complementSymmetric place_keeps_complementSymmetric

/-- A character and its complement have the same entry (R89). -/
@[simp] theorem decRead_compl13 (v : Character) : decRead (compl13 v) = decRead v := by
  simpa using constructedTables_complementSymmetric.sameEntry v

/-- Where there is an entry, the parities of a character and its complement differ (R89). -/
theorem fcsRead_compl13 {v : Character} (hentry : (decRead v).isSome = true) : fcsRead (compl13 v) = !fcsRead v := by
  simpa using constructedTables_complementSymmetric.otherParity v (by simpa using hentry)

theorem popcount13_le (v : Character) : popcount13 v ≤ 13 := by
  rw [popcount13_eq_countP]
  exact List.countP_le_length

/-- Presence by popcount (R70), evaluated on the contents of DEC. The evaluation asks for the popcount modulo 3, which
the kernel computes faster than membership in the list. -/
theorem decRead_isSome_iff (v : Character) : (decRead v).isSome = true ↔ popcount13 v ∈ [2, 5, 8, 11] := by
  have heval := forall_character (fun v => (decRead v).isSome == (popcount13 v % 3 == 2)) (by decide +kernel) v
  have hle := popcount13_le v
  simp only [eq_of_beq heval, beq_iff_eq, List.mem_cons, List.not_mem_nil, or_false]
  omega

/-- R17 for the reads of the block. -/
theorem fcsRead_of_miss {v : Character} (hmiss : decRead v = none) : fcsRead v = false := by
  simpa using (parityIsZeroWhereNoEntryIs v).2 (by simpa using hmiss)

/-- DEC in one equation, hit or miss (R81): a miss has parity 0 because its entry in FCS is 0. -/
theorem decResult_eq (v : Character) :
    decResult v
      = (response (decRead v).isSome false (fcsRead v) ((decRead v).elim 0x07FF#13 (·.setWidth 13)), none) := by
  cases hread : decRead v with
  | none => simp [decResult_miss v hread, fcsRead_of_miss hread, zextIndex, absentIndex]
  | some i => simp [decResult_hit v i hread, zextIndex]

/-- PAR in one equation, hit or miss (R82). -/
theorem parResult_eq (v : Character) :
    parResult v = (response (decRead v).isSome false (fcsRead v) 0#13, none) := by
  cases hread : decRead v with
  | none => simp [parResult_miss v hread, fcsRead_of_miss hread]
  | some i => simp [parResult_hit v i hread]

/-- Settles O28: the result of a miss is no fault, so nothing is captured. -/
theorem missIsNotAFault : Obligations.MissIsNotAFault := by
  unfold Obligations.MissIsNotAFault
  intro s v hmiss
  constructor
  · exact ⟨_, exec_eq_accept _ s, by simp [acceptRequest, resultOf, decResult_miss v hmiss]⟩
  · exact ⟨_, exec_eq_accept _ s, by simp [acceptRequest, resultOf, parResult_miss v hmiss]⟩

/-- Settles O20: the fields of a PAR response are presence and parity, and a miss has parity 0. -/
theorem parGivesTheParityOrAMiss : Obligations.ParGivesTheParityOrAMiss := by
  unfold Obligations.ParGivesTheParityOrAMiss
  refine ⟨fun v => ?_, by decide, by decide, by decide⟩
  have hresult : execute (encode (.par v)) = (response (decRead v).isSome false (fcsRead v) 0#13, none) := by
    rw [execute_encode, resultOf, parResult_eq]
  refine ⟨by simp [hresult], fun hmiss => ?_, by rw [hresult]⟩
  have hnone : decRead v = none := by simpa using hmiss
  rw [hresult, parFlag_response, fcsRead_of_miss hnone]

/-- Settles O19: the fields of a DEC response are the entries of the two tables, so the complement's response follows
from their symmetry and the misses from the popcounts. -/
theorem decGivesTheIndexAndParityOrAMiss : Obligations.DecGivesTheIndexAndParityOrAMiss := by
  unfold Obligations.DecGivesTheIndexAndParityOrAMiss
  refine ⟨fun v => ?_, by decide, by decide, by decide, by decide, by decide⟩
  simp only [execute_encode, resultOf, decResult_eq, decAt_constructedTables, fcsAt_constructedTables, fieldsOf_response,
    hitFlag_response, parFlag_response, dataField_response, decRead_compl13, true_and]
  refine ⟨fun i hentry => by simp [hentry], fun hmiss => by simp [hmiss, fcsRead_of_miss hmiss], fun hpopcount => ?_,
    fcsRead_compl13, fun hmiss => ?_⟩
  · exact Bool.eq_false_iff.mpr (mt (decRead_isSome_iff v).mp hpopcount)
  · have hnone : decRead v = none := by simpa using hmiss
    simp [hnone]

end Sys2Proof.Machine
end

section
/-! Proofs about which requests fault (spec/60_exceptions.md rule R94): the fault of a request word by its fields, and
`err` in its response. -/

namespace Sys2Proof

theorem rsvBit_eq_true_iff (w : Word) : rsvBit w = true ↔ w.toNat / 2 ^ 13 % 2 = 1 := by
  rw [rsvBit, BitVec.getLsbD, Nat.testBit_eq_decide_div_mod_eq, decide_eq_true_iff]

theorem opField_eq_iff (w : Word) (op : BitVec 2) : opField w = op ↔ w.toNat / 2 ^ 14 = op.toNat := by
  rw [BitVec.toNat_eq, opField_toNat]

/-- The words of the row ENC are the numbers of 13 bits (R49). -/
theorem encRow_iff_toNat_lt (w : Word) : rsvBit w = false ∧ opField w = 0#2 ↔ w.toNat < 2 ^ 13 := by
  rw [← Bool.not_eq_true, rsvBit_eq_true_iff, opField_eq_iff, BitVec.toNat_ofNat]
  omega

namespace Machine

/-- ENC faults exactly on an index out of range (R80). -/
theorem encResult_fault (k : Character) :
    (encResult k).2 = if 1365 ≤ k.toNat then some .indexOutOfRange else none := by
  split
  case isTrue hrange => rw [encResult_outOfRange k hrange]
  case isFalse hrange => rw [encResult_inRange k (by omega)]

/-- No DEC faults (R81). -/
@[simp] theorem decResult_fault (v : Character) : (decResult v).2 = none := by rw [decResult_eq]

/-- No PAR faults (R82). -/
@[simp] theorem parResult_fault (v : Character) : (parResult v).2 = none := by rw [parResult_eq]

@[simp] theorem illegalResult_fault : illegalResult.2 = some .illegalRequest := rfl

/-- Which fault a word raises, by its fields (R94). -/
theorem execute_fault (w : Word) :
    (execute w).2 = if rsvBit w = true ∨ opField w = 3#2 then some .illegalRequest
      else if opField w = 0#2 ∧ 1365 ≤ (argField w).toNat then some .indexOutOfRange else none := by
  rw [execute_eq_resultOf]
  obtain ⟨hrsv, hdecode⟩ | ⟨hrsv, hop, hdecode⟩ | ⟨hrsv, hop, hdecode⟩ | ⟨hrsv, hop, hdecode⟩ | ⟨hrsv, hop, hdecode⟩
    := decode_cases w
  · simp [hdecode, resultOf, hrsv]
  · simp [hdecode, resultOf, hop]
  · simp [hdecode, resultOf, hrsv, hop, encResult_fault]
  · simp [hdecode, resultOf, hrsv, hop]
  · simp [hdecode, resultOf, hrsv, hop]

/-- ILLEGAL_REQUEST is the fault of the reserved words alone (R94). -/
theorem execute_illegalRequest_iff (w : Word) :
    (execute w).2 = some .illegalRequest ↔ rsvBit w = true ∨ opField w = 3#2 := by
  rw [execute_fault]
  split
  case isTrue hreserved => simp [hreserved]
  case isFalse hlegal => split <;> simp [hlegal]

/-- INDEX_OUT_OF_RANGE is the fault of ENC alone, with an index of 1365 or more (R94). -/
theorem execute_indexOutOfRange_iff (w : Word) :
    (execute w).2 = some .indexOutOfRange ↔ (rsvBit w = false ∧ opField w = 0#2) ∧ 1365 ≤ (argField w).toNat := by
  rw [execute_fault]
  split
  case isTrue hreserved =>
    have hnotEnc : ¬(rsvBit w = false ∧ opField w = 0#2) := by
      rintro ⟨hrsv, hop⟩
      simp [hrsv, hop] at hreserved
    simp [hnotEnc]
  case isFalse hlegal =>
    obtain ⟨hrsv, -⟩ := not_or.mp hlegal
    simp [hrsv]

/-- Settles O34: each cause is that of its words by their fields, and the fields are read off the word's value. -/
theorem faultsAreExactlyTheReservedWordsAndIndices : Obligations.FaultsAreExactlyTheReservedWordsAndIndices := by
  unfold Obligations.FaultsAreExactlyTheReservedWordsAndIndices
  intro w
  refine ⟨?_, ?_, fun v => by simp [resultOf]⟩
  · rw [execute_illegalRequest_iff, opField_eq_iff]
    rfl
  · rw [execute_indexOutOfRange_iff, encRow_iff_toNat_lt, argField_toNat]
    omega

/-- The response of a request has `err` = 1 exactly when the request faults (R48, R95). -/
theorem errFlag_resultOf (i : Instr) : errFlag (resultOf i).1 = (resultOf i).2.isSome := by
  cases i with
  | enc k =>
    by_cases hrange : 1365 ≤ k.toNat
    · simp [resultOf, encResult_outOfRange k hrange]
    · simp [resultOf, encResult_inRange k (by omega)]
  | dec v => simp [resultOf, decResult_eq]
  | par v => simp [resultOf, parResult_eq]
  | illegalRsv op arg => simp [resultOf, illegalResult]
  | illegalOp arg => simp [resultOf, illegalResult]

theorem errFlag_execute_of_fault {w : Word} (hfault : (execute w).2 ≠ none) : errFlag (execute w).1 = true := by
  rw [execute_eq_resultOf] at hfault ⊢
  rwa [errFlag_resultOf, Option.isSome_iff_ne_none]

end Machine

end Sys2Proof
end

section
/-! Proofs about the capture of a fault (spec/60_exceptions.md rules R95 and R99): what accepting a request does to the
fault registers. -/

namespace Sys2Proof.Machine

@[simp] theorem acceptRequest_rspQ (result : Word × Option Cause) (w : Word) (s : State) :
    (acceptRequest result w s).rspQ = result.1 := by
  simp [acceptRequest]

/-- A request without a fault leaves the fault registers alone (R95). -/
theorem acceptRequest_of_noFault {result : Word × Option Cause} (hnone : result.2 = none) (w : Word) (s : State) :
    acceptRequest result w s = respond result.1 s := by
  rw [acceptRequest, hnone, captureFault_none]

/-- Once a fault is recorded, no request changes the fault registers (R95, R99). -/
theorem acceptRequest_of_recorded {s : State} (hrecorded : s.faultCauseQ ≠ 0#2) (result : Word × Option Cause)
    (w : Word) : acceptRequest result w s = respond result.1 s :=
  captureFault_later result.2 w (respond result.1 s) hrecorded

/-- The first fault since reset is recorded with its code and its request word (R95). -/
theorem acceptRequest_of_firstFault {result : Word × Option Cause} {c : Cause} {s : State}
    (hfault : result.2 = some c) (hclear : s.faultCauseQ = 0#2) (w : Word) :
    acceptRequest result w s = { respond result.1 s with faultCauseQ := c.code, faultInfoQ := w } := by
  rw [acceptRequest, hfault]
  exact captureFault_first c w (respond result.1 s) hclear

/-- The step that accepts a presented word (R79, R85). -/
theorem step_presentWord (w : Word) (s : State) :
    step (presentWord w s) = .next (acceptRequest (execute w) w (takeSample s)) := by
  rw [step, nextSample_presentWord, takeSample_presentWord]
  exact clockEdge_of_request _ rfl rfl

/-- Settles O35: the edge accepts the word, and what that does to the fault registers is one of three cases: no fault,
a first fault, a fault recorded already. -/
theorem firstFaultIsCapturedWithItsWord : Obligations.FirstFaultIsCapturedWithItsWord := by
  unfold Obligations.FirstFaultIsCapturedWithItsWord
  intro s w
  have hfirst (c : Cause) (hfault : (execute w).2 = some c) (hclear : s.faultCauseQ = 0#2) :
      (acceptRequest (execute w) w (takeSample s)).faultCauseQ = c.code
        ∧ (acceptRequest (execute w) w (takeSample s)).faultInfoQ = w := by
    rw [acceptRequest_of_firstFault (s := takeSample s) hfault hclear]
    exact ⟨rfl, rfl⟩
  refine ⟨_, step_presentWord w s, fun hnone => ?_, fun hfault => ?_, hfirst .illegalRequest, hfirst .indexOutOfRange,
    fun hrecorded => ?_⟩
  · rw [acceptRequest_of_noFault hnone]
    exact ⟨rfl, rfl⟩
  · rw [acceptRequest_rspQ]
    exact errFlag_execute_of_fault hfault
  · rw [acceptRequest_of_recorded (s := takeSample s) hrecorded]
    exact ⟨rfl, rfl⟩

/-- R99 for one edge under any sample. -/
theorem clockEdge_keeps_recordedFault {x : Sample} {s t : State} (hedge : clockEdge x s = .next t)
    (hrst : x.rst = false) (hrecorded : s.faultCauseQ ≠ 0#2) :
    t.faultCauseQ = s.faultCauseQ ∧ t.faultInfoQ = s.faultInfoQ := by
  cases hvalid : x.reqValid with
  | true =>
    rw [clockEdge_of_request s hrst hvalid, acceptRequest_of_recorded hrecorded] at hedge
    obtain rfl : respond _ s = t := by simpa using hedge
    simp
  | false =>
    rw [clockEdge_of_idle s hrst hvalid] at hedge
    obtain rfl : idleEdge s = t := by simpa using hedge
    simp

/-- Settles O36: an edge without reset keeps a recorded fault, a reset edge clears it, and an accepted request is
answered by its own result. -/
theorem onlyResetClearsARecordedFault : Obligations.OnlyResetClearsARecordedFault := by
  unfold Obligations.OnlyResetClearsARecordedFault
  intro s t hstep hrecorded
  rw [step] at hstep
  refine ⟨fun hrst => clockEdge_keeps_recordedFault (s := takeSample s) hstep hrst hrecorded, fun hrst => ?_,
    fun hrst hvalid hfault => ?_⟩
  · rw [clockEdge_of_reset _ hrst] at hstep
    cases hstep
    exact ⟨rfl, rfl⟩
  · rw [clockEdge_of_request _ hrst hvalid] at hstep
    cases hstep
    rw [acceptRequest_rspQ]
    exact errFlag_execute_of_fault hfault

end Sys2Proof.Machine
end

section
/-! Proofs about the timing of a response (spec/70_reset_and_hazards.md rules R112, R115 and R116): the step that
accepts a listed request and the step of an idle edge, and two such steps in a row. -/

namespace Sys2Proof.Machine

@[simp] theorem acceptRequest_inputs (result : Word × Option Cause) (w : Word) (s : State) :
    (acceptRequest result w s).inputs = s.inputs := by
  simp [acceptRequest]

section
variable {s : State} {x : Sample} {xs : List Sample}

/-- The step that accepts a listed request (R85). -/
theorem step_of_request {w : Word} (hinputs : s.inputs = requestSample w :: xs) :
    step s = .next (acceptRequest (execute w) w (takeSample s)) := by
  rw [step, nextSample_of_cons s _ xs hinputs]
  exact clockEdge_of_request _ rfl rfl

/-- The step of a listed sample without reset and request (R116). -/
theorem step_of_idle (hinputs : s.inputs = x :: xs) (hrst : x.rst = false) (hvalid : x.reqValid = false) :
    step s = .next (idleEdge (takeSample s)) := by
  rw [step, nextSample_of_cons s x xs hinputs]
  exact clockEdge_of_idle _ hrst hvalid

end

/-- Settles O14: the second step starts from the state that the first request left, with the second sample at the head
of its list. A request there replaces the response, an idle edge holds it. -/
theorem secondRequestOverwritesTheResponse : Obligations.SecondRequestOverwritesTheResponse := by
  unfold Obligations.SecondRequestOverwritesTheResponse
  intro s w v y xs
  constructor
  · intro hinputs
    have hsecond : (acceptRequest (execute w) w (takeSample s)).inputs = requestSample v :: xs := by simp [hinputs]
    exact ⟨_, _, step_of_request hinputs, step_of_request hsecond, by simp⟩
  · intro hinputs hrst hvalid
    have hsecond : (acceptRequest (execute w) w (takeSample s)).inputs = y :: xs := by simp [hinputs]
    exact ⟨_, _, step_of_request hinputs, step_of_idle hsecond hrst hvalid, by simp⟩

/-- Settles O12: presenting a word changes no register, and the edge that accepts it loads the response. -/
theorem responseAppearsOneCycleLater : Obligations.ResponseAppearsOneCycleLater := by
  unfold Obligations.ResponseAppearsOneCycleLater
  exact fun s w => ⟨rfl, _, step_presentWord w s, by simp [outputs]⟩

/-- Settles O13: the step is an idle edge, which clears `rsp_valid_q` alone. -/
theorem idleEdgeHoldsTheRegisters : Obligations.IdleEdgeHoldsTheRegisters := by
  unfold Obligations.IdleEdgeHoldsTheRegisters
  exact fun s x xs hinputs hrst hvalid => ⟨_, step_of_idle hinputs hrst hvalid, by simp [outputs]⟩

end Sys2Proof.Machine
end

section
/-! Proofs about the encoding (spec/30_encoding.md sections 1 and 3): the settled laws of decoding and encoding, the
words of the five rows, and how many words are reserved. -/

namespace Sys2Proof

/-- Every request is well formed (R45, R46). -/
@[simp] theorem Instr.wf_eq_true (i : Instr) : i.wf = true := by cases i <;> rfl

/-- Settles O1: `decode_encode` holds of every request, and all are well formed. -/
theorem decodeOfEncodeIsTheRequest : Obligations.DecodeOfEncodeIsTheRequest := by
  unfold Obligations.DecodeOfEncodeIsTheRequest
  exact fun i _ => decode_encode i

/-- Settles O2: `encode_decode` holds of every word, and all requests are well formed. -/
theorem encodeOfDecodeIsTheWord : Obligations.EncodeOfDecodeIsTheWord := by
  unfold Obligations.EncodeOfDecodeIsTheWord
  exact fun w => ⟨encode_decode w, (decode w).wf_eq_true⟩

/-- Settles O5: with bit 13 clear, a request word is its `op` at the top and its operand below. -/
theorem encodingFormulasOfLookups : Obligations.EncodingFormulasOfLookups := by
  unfold Obligations.EncodingFormulasOfLookups
  refine ⟨fun k => ?_, fun v => ?_, fun v => ?_, by decide, by decide, by decide⟩
  all_goals simp [encode, requestWord]

/-- Settles O6: the fixed words, decoded. -/
theorem wordsOfTheFiveRowsDecode : Obligations.WordsOfTheFiveRowsDecode := by
  unfold Obligations.WordsOfTheFiveRowsDecode
  exact ⟨by decide, by decide, by decide, by decide, by decide, by decide, by decide⟩

/-- Bits 15:13 of a request word are `op` and the reserved bit (R42). -/
theorem shiftedTop_or_arg_eq {top : Nat} (htop : top < 8) (arg : Character) :
    BitVec.ofNat 16 top <<< 13 ||| arg.setWidth 16 = requestWord (BitVec.ofNat 2 (top / 2)) (top % 2 == 1) arg := by
  unfold requestWord
  congr 1
  interval_cases top <;> decide

/-- The number of the eight values of bits 15:13 whose word, with a given operand, meets `p`, when `p` looks only at
`op` and the reserved bit. -/
theorem countP_topBits {p : Word → Bool} {q : BitVec 2 → Bool → Bool}
    (hfields : ∀ w, p w = q (opField w) (rsvBit w)) (arg : Character) :
    (List.range 8).countP (fun top => p (BitVec.ofNat 16 top <<< 13 ||| arg.setWidth 16))
      = (List.range 8).countP (fun top => q (BitVec.ofNat 2 (top / 2)) (top % 2 == 1)) := by
  refine List.countP_congr fun top htop => ?_
  rw [shiftedTop_or_arg_eq (List.mem_range.mp htop), hfields, opField_requestWord, rsvBit_requestWord]

/-- How many of the numbers below `n + m` are below `n`. -/
theorem countP_range_lt (n m : Nat) : (List.range (n + m)).countP (fun k => decide (k < n)) = n := by
  have hbelow : (List.range n).countP (fun k => decide (k < n)) = (List.range n).length :=
    List.countP_eq_length.mpr fun k hk => by simpa using hk
  have habove : ((List.range m).map (n + ·)).countP (fun k => decide (k < n)) = 0 :=
    List.countP_eq_zero.mpr fun k hk => by
      obtain ⟨j, -, rfl⟩ := List.mem_map.mp hk
      simp
  rw [List.range_add, List.countP_append, hbelow, habove, List.length_range, Nat.add_zero]

namespace Machine

/-- The illegal words by the fields `op` and `rsv` (R83, R94). -/
theorem execute_illegalRequest_beq (w : Word) :
    ((execute w).2 == some .illegalRequest) = (rsvBit w || opField w == 3#2) := by
  rw [Bool.eq_iff_iff, beq_iff_eq, execute_illegalRequest_iff, Bool.or_eq_true, beq_iff_eq]

/-- Settles O7: the five counts look only at `op` and the reserved bit, and an ENC word is in range when its index is
below 1365. -/
theorem countsOfReservedAndLegalWords : Obligations.CountsOfReservedAndLegalWords := by
  unfold Obligations.CountsOfReservedAndLegalWords
  refine ⟨fun arg => ⟨?_, ?_, ?_, ?_, ?_⟩, ?_⟩
  · rw [countP_topBits (q := fun _ rsv => rsv) (fun _ => rfl)]; decide
  · rw [countP_topBits (p := fun w => opField w == 3#2) (q := fun op _ => op == 3#2) (fun _ => rfl)]; decide
  · rw [countP_topBits (p := fun w => rsvBit w && opField w == 3#2) (q := fun op rsv => rsv && op == 3#2)
      (fun _ => rfl)]
    decide
  · rw [countP_topBits (p := fun w => (execute w).2 == some .illegalRequest) (q := fun op rsv => rsv || op == 3#2)
      execute_illegalRequest_beq]
    decide
  · rw [countP_topBits (p := fun w => (execute w).2 != some .illegalRequest) (q := fun op rsv => !(rsv || op == 3#2))
      (fun w => congrArg not (execute_illegalRequest_beq w))]
    decide
  · rw [← countP_range_lt 1365 6827]
    refine List.countP_congr fun n hn => ?_
    have hlt : n < 8192 := List.mem_range.mp hn
    simp [resultOf, encResult_fault]
    omega

end Machine

end Sys2Proof
end

section
/-! Proofs about the register invariant and the fault output (spec/10_state.md section 3, spec/60_exceptions.md sections
1 to 5): the shape of a response, the cause a word raises, and what each edge does to the fault registers. -/

namespace Sys2Proof.Machine

/-- Every edge has a next state, one of the three effects of R85. -/
theorem clockEdge_eq_next (x : Sample) (s : State) :
    (x.rst = true ∧ clockEdge x s = .next (resetEdge s))
    ∨ (x.rst = false ∧ x.reqValid = true ∧ clockEdge x s = .next (acceptRequest (execute x.reqWord) x.reqWord s))
    ∨ (x.rst = false ∧ x.reqValid = false ∧ clockEdge x s = .next (idleEdge s)) := by
  simpa only [exec_decode] using clockEdge_cases x s

/-- The inversion of an edge that has a next state. -/
theorem clockEdge_inversion {x : Sample} {s t : State} (hedge : clockEdge x s = .next t) :
    (x.rst = true ∧ t = resetEdge s)
    ∨ (x.rst = false ∧ x.reqValid = true ∧ t = acceptRequest (execute x.reqWord) x.reqWord s)
    ∨ (x.rst = false ∧ x.reqValid = false ∧ t = idleEdge s) := by
  simpa only [hedge, Host.Outcome.next.injEq] using clockEdge_eq_next x s

/-- Settles O10: each of the three effects of an edge is a next state. -/
theorem everyStepHasANextState : Obligations.EveryStepHasANextState := by
  unfold Obligations.EveryStepHasANextState
  intro s
  obtain ⟨-, hedge⟩ | ⟨-, -, hedge⟩ | ⟨-, -, hedge⟩ := clockEdge_eq_next (nextSample s) (takeSample s)
  all_goals exact ⟨_, hedge⟩

/-- The registers after a faulting request: a first fault is recorded, and the others hold (R85, R95). -/
theorem acceptRequest_of_fault {result : Word × Option Cause} {c : Cause} (hfault : result.2 = some c) (w : Word)
    (s : State) :
    acceptRequest result w s
      = { s with rspQ := result.1, rspValidQ := true,
                 faultCauseQ := if s.faultCauseQ = 0#2 then c.code else s.faultCauseQ,
                 faultInfoQ := if s.faultCauseQ = 0#2 then w else s.faultInfoQ } := by
  by_cases hclear : s.faultCauseQ = 0#2
  · rw [acceptRequest_of_firstFault hfault hclear]
    simp [respond, hclear]
  · rw [acceptRequest_of_recorded hclear]
    simp [respond, hclear]

/-- After a faulting request a fault is recorded: its own or an earlier one (R95). -/
theorem acceptRequest_faultCauseQ_ne_zero {result : Word × Option Cause} (hfault : result.2 ≠ none) (w : Word)
    (s : State) : (acceptRequest result w s).faultCauseQ ≠ 0#2 := by
  obtain ⟨c, hc⟩ := Option.ne_none_iff_exists'.mp hfault
  rw [acceptRequest_of_fault hc]
  by_cases hclear : s.faultCauseQ = 0#2
  · simp [hclear, code_ne_zero c]
  · simp [hclear]

/-- The response of every request has the shape of one of the outcomes of R48. -/
theorem resultOf_shaped (i : Instr) : ResponseShaped (resultOf i).1 := by
  unfold ResponseShaped
  cases i with
  | enc k =>
    by_cases hrange : 1365 ≤ k.toNat
    · simp [resultOf, encResult_outOfRange k hrange]
    · simp [resultOf, encResult_inRange k (by omega)]
  | dec v =>
    cases hread : decRead v with
    | none => simp [resultOf, decResult_miss v hread, zextIndex, absentIndex]
    | some i => simp [resultOf, decResult_hit v i hread]
  | par v =>
    cases hread : decRead v with
    | none => simp [resultOf, parResult_miss v hread]
    | some i => simp [resultOf, parResult_hit v i hread]
  | illegalRsv op arg => simp [resultOf, illegalResult]
  | illegalOp arg => simp [resultOf, illegalResult]

/-- A recorded word raises the cause recorded with it (R93, R94). -/
theorem causeMatchesWord_of_fault {w : Word} {c : Cause} (hfault : (execute w).2 = some c) :
    CauseMatchesWord c.code w := by
  cases c with
  | illegalRequest => exact .inr (.inl ⟨rfl, (execute_illegalRequest_iff w).mp hfault⟩)
  | indexOutOfRange =>
    obtain ⟨⟨hrsv, hop⟩, hrange⟩ := (execute_indexOutOfRange_iff w).mp hfault
    exact .inr (.inr ⟨rfl, hrsv, hop, hrange⟩)

/-- Accepting a request keeps the agreement of the fault registers. -/
theorem acceptRequest_keeps_causeMatchesWord {s : State} (hmatch : CauseMatchesWord s.faultCauseQ s.faultInfoQ)
    (w : Word) :
    CauseMatchesWord (acceptRequest (execute w) w s).faultCauseQ (acceptRequest (execute w) w s).faultInfoQ := by
  cases hfault : (execute w).2 with
  | none => rwa [acceptRequest_of_noFault hfault, respond_faultCauseQ, respond_faultInfoQ]
  | some c =>
    by_cases hclear : s.faultCauseQ = 0#2
    · rw [acceptRequest_of_firstFault hfault hclear]
      exact causeMatchesWord_of_fault hfault
    · rwa [acceptRequest_of_recorded hclear, respond_faultCauseQ, respond_faultInfoQ]

/-- `err` reports exactly the faulting words (R48). -/
theorem errFlag_execute (w : Word) : errFlag (execute w).1 = (execute w).2.isSome := by
  rw [execute_eq_resultOf, errFlag_resultOf]

/-- The invariant after a request: its response has a shape of R48, and reports a fault only if the request faults. -/
theorem acceptRequest_keeps_inv {s : State} (hmatch : CauseMatchesWord s.faultCauseQ s.faultInfoQ) (w : Word) :
    (acceptRequest (execute w) w s).Inv := by
  refine ⟨acceptRequest_keeps_causeMatchesWord hmatch w, ?_, fun herr => ?_⟩
  · rw [acceptRequest_rspQ, execute_eq_resultOf]
    exact resultOf_shaped (decode w)
  · rw [acceptRequest_rspQ, errFlag_execute] at herr
    exact acceptRequest_faultCauseQ_ne_zero (Option.isSome_iff_ne_none.mp herr) w s

/-- Settles O40: the reset values meet the invariant. -/
theorem resetMeetsTheRegisterInvariant : Obligations.ResetMeetsTheRegisterInvariant := by
  unfold Obligations.ResetMeetsTheRegisterInvariant
  decide

/-- The invariant speaks of the four registers, which a reset edge sets to those of the reset state. -/
theorem resetEdge_inv (s : State) : (resetEdge s).Inv := resetMeetsTheRegisterInvariant

/-- Settles O39: a reset edge sets the registers to the reset values, an accepted request keeps the invariant, and an
idle edge changes no register that it speaks of. -/
theorem everyStepKeepsTheRegisterInvariant : Obligations.EveryStepKeepsTheRegisterInvariant := by
  unfold Obligations.EveryStepKeepsTheRegisterInvariant
  intro s t hinv hstep
  obtain ⟨-, rfl⟩ | ⟨-, -, rfl⟩ | ⟨-, -, rfl⟩ := clockEdge_inversion hstep
  · exact resetEdge_inv _
  · obtain ⟨hmatch, -, -⟩ := hinv
    exact acceptRequest_keeps_inv (s := takeSample s) hmatch _
  · exact hinv

/-- A step under a reset sample is a reset edge (R107). -/
theorem step_eq_resetEdge {s t : State} (hrst : (nextSample s).rst = true) (hstep : step s = .next t) :
    t = resetEdge (takeSample s) := by
  rw [step, clockEdge_of_reset _ hrst] at hstep
  exact (Host.Outcome.next.inj hstep).symm

/-- Settles O41: a reset edge sets the registers to the reset values, whatever they were. -/
theorem resetEdgeEstablishesTheRegisterInvariant : Obligations.ResetEdgeEstablishesTheRegisterInvariant := by
  unfold Obligations.ResetEdgeEstablishesTheRegisterInvariant
  intro s t hrst hstep
  obtain rfl := step_eq_resetEdge hrst hstep
  exact ⟨resetEdge_inv _, rfl⟩

/-- The output `fault` is the level of the cause register (R101). -/
@[simp] theorem outputs_fault_iff (s : State) : (outputs s).fault = true ↔ s.faultCauseQ ≠ 0#2 := by
  simp [outputs]

/-- Settles O38: a faulting request leaves a fault recorded, R99 keeps it, and a reset edge clears the cause. -/
theorem faultOutputRisesAndStaysUntilReset : Obligations.FaultOutputRisesAndStaysUntilReset := by
  unfold Obligations.FaultOutputRisesAndStaysUntilReset
  intro s t hstep
  refine ⟨fun hrst hvalid hfault => ?_, fun hrst hrecorded => ?_, fun hrst => ?_, outputs_fault_iff t⟩
  · rw [step, clockEdge_of_request _ hrst hvalid] at hstep
    obtain rfl := Host.Outcome.next.inj hstep
    exact (outputs_fault_iff _).mpr (acceptRequest_faultCauseQ_ne_zero hfault _ _)
  · rw [outputs_fault_iff] at hrecorded ⊢
    obtain ⟨hcause, -⟩ := clockEdge_keeps_recordedFault (s := takeSample s) hstep hrst hrecorded
    rwa [hcause]
  · obtain rfl := step_eq_resetEdge hrst hstep
    rfl

/-- Settles O37: reset drops the request, and the two causes belong to disjoint sets of words. -/
theorem resetThenIllegalThenIndex : Obligations.ResetThenIllegalThenIndex := by
  unfold Obligations.ResetThenIllegalThenIndex
  refine ⟨fun s w valid xs hinputs => ?_, fun w hreserved => ?_, fun w hfault => ?_⟩
  · exact ⟨_, (step_of_cons hinputs).trans (clockEdge_of_reset _ rfl), rfl, rfl, rfl⟩
  · rw [execute_illegalRequest_iff, opField_eq_iff]
    exact hreserved
  · obtain ⟨⟨hrsv, hop⟩, -⟩ := (execute_indexOutOfRange_iff w).mp hfault
    exact ⟨hrsv, (opField_eq_iff w 0#2).mp hop⟩

end Sys2Proof.Machine
end

section
/-! Proofs about the samples of an edge (spec/10_state.md section 4, spec/70_reset_and_hazards.md sections 1 and 2): what
a step does with the listed sample, which inputs it ignores, and what a reset leaves. -/

namespace Sys2Proof.Machine

@[simp] theorem acceptRequest_edgeNo (result : Word × Option Cause) (w : Word) (s : State) :
    (acceptRequest result w s).edgeNo = s.edgeNo := by
  simp [acceptRequest]

/-- An edge that accepts a request performs it (R85). -/
theorem clockEdge_of_accepted {x : Sample} (s : State) (hrst : x.rst = false) (hvalid : x.reqValid = true) :
    clockEdge x s = exec (decode x.reqWord) s := by
  simp [clockEdge, hrst, hvalid]

/-- Settles O8: the step applies the sample listed first, which for `withFetchWord` presents the placed word. -/
theorem stepRunsTheDecodedRequest : Obligations.StepRunsTheDecodedRequest := by
  unfold Obligations.StepRunsTheDecodedRequest
  refine ⟨fun s x xs hinputs hrst hvalid => ?_, fun s nbits w _ => ?_⟩
  · rw [step_of_cons hinputs, clockEdge_of_accepted _ hrst hvalid]
  · have hinputs : (s.withFetchWord nbits w).inputs = requestSample (tableWord nbits w) :: s.inputs.tail := rfl
    rw [step_of_cons hinputs, clockEdge_of_accepted _ rfl rfl]
    rfl

/-- Two samples under which an edge does the same: `rst` hides the other inputs (R107), and without a request
`req_word` is ignored (R25). -/
theorem clockEdge_ignores {x y : Sample} (s : State)
    (hsame : (x.rst = true ∧ y.rst = true) ∨ (x.rst = false ∧ y.rst = false ∧ x.reqValid = false ∧ y.reqValid = false)) :
    clockEdge x s = clockEdge y s := by
  obtain ⟨hx, hy⟩ | ⟨hx, hy, hxvalid, hyvalid⟩ := hsame
  · rw [clockEdge_of_reset s hx, clockEdge_of_reset s hy]
  · rw [clockEdge_of_idle s hx hxvalid, clockEdge_of_idle s hy hyvalid]

/-- Settles O15: each step is the edge under its own sample, and the edges are the same. -/
theorem ignoredInputsChangeNothing : Obligations.IgnoredInputsChangeNothing := by
  unfold Obligations.IgnoredInputsChangeNothing
  exact fun s x y xs hsame => clockEdge_ignores { s with inputs := xs, edgeNo := s.edgeNo + 1 } hsame

/-- The step of a listed sample with reset (R107). -/
theorem step_of_reset {s : State} {x : Sample} {xs : List Sample} (hinputs : s.inputs = x :: xs)
    (hrst : x.rst = true) : step s = .next (resetEdge (takeSample s)) := by
  rw [step, nextSample_of_cons s x xs hinputs]
  exact clockEdge_of_reset _ hrst

/-- Settles O17: the values are those of the reset state, and a reset edge writes all four registers. -/
theorem resetGivesTheResetValues : Obligations.ResetGivesTheResetValues := by
  unfold Obligations.ResetGivesTheResetValues
  exact ⟨rfl, rfl, rfl, rfl, fun s x xs hinputs hrst => ⟨_, step_of_reset hinputs hrst, rfl⟩⟩

/-- Settles O16: the request finds no fault recorded, so a fault of its own is the first. -/
theorem firstRequestAfterResetStartsAfresh : Obligations.FirstRequestAfterResetStartsAfresh := by
  unfold Obligations.FirstRequestAfterResetStartsAfresh
  intro s r w xs hinputs hrst
  have hsecond : (resetEdge (takeSample s)).inputs = requestSample w :: xs := by simp [hinputs]
  refine ⟨_, _, step_of_reset hinputs hrst, step_of_request hsecond, by simp, by simp, fun hnone => ?_,
    fun c hfault => ?_⟩
  · rw [acceptRequest_of_noFault hnone]
    exact ⟨rfl, rfl⟩
  · rw [acceptRequest_of_fault hfault]
    exact ⟨rfl, rfl⟩

/-- Settles O29: accepting a request never touches the client's samples, and it writes the fault registers only for a
first fault. -/
theorem requestsChangeOnlyResponseAndFirstFault : Obligations.RequestsChangeOnlyResponseAndFirstFault := by
  unfold Obligations.RequestsChangeOnlyResponseAndFirstFault
  intro i s t hexec
  obtain rfl : acceptRequest (resultOf i) (encode i) s = t := by simpa [exec_eq_accept] using hexec
  refine ⟨by simp, by simp, fun hnone => ?_, fun hrecorded => ?_⟩
  · rw [execute_encode] at hnone
    simp [acceptRequest_of_noFault hnone]
  · simp [acceptRequest_of_recorded hrecorded]

/-- Settles O30: the response registered at the edge is `Execute` of the presented word. -/
theorem responseDependsOnTheWordAlone : Obligations.ResponseDependsOnTheWordAlone := by
  unfold Obligations.ResponseDependsOnTheWordAlone
  exact fun s t w => ⟨_, _, step_presentWord w s, step_presentWord w t, by simp⟩

end Sys2Proof.Machine
end

section
/-! Proofs about the completion of each request (spec/41_lookup_operations.md sections 2 to 4): its whole next state, with
the response word written out. -/

namespace Sys2Proof.Machine

/-- A request without a fault writes the two response registers alone (R85). -/
theorem exec_of_noFault {i : Instr} (hnone : (resultOf i).2 = none) (s : State) :
    exec i s = .next { s with rspQ := (resultOf i).1, rspValidQ := true } := by
  rw [exec_eq_accept, acceptRequest_of_noFault hnone, respond]

/-- A faulting request writes the response registers, and the fault registers where no fault is recorded (R85, R95). -/
theorem exec_of_fault {i : Instr} {c : Cause} (hfault : (resultOf i).2 = some c) (s : State) :
    exec i s
      = .next { s with rspQ := (resultOf i).1, rspValidQ := true,
                       faultCauseQ := if s.faultCauseQ = 0#2 then c.code else s.faultCauseQ,
                       faultInfoQ := if s.faultCauseQ = 0#2 then encode i else s.faultInfoQ } := by
  rw [exec_eq_accept, acceptRequest_of_fault hfault]

/-- A hit's response word: its flags, then its data (R47). -/
theorem response_hit (par : Bool) (d : Character) :
    response true false par d = (if par then 0xA000#16 else 0x8000#16) ||| d.setWidth 16 := by
  cases par <;> rfl

/-- A response without flags is its data (R47). -/
theorem response_noFlags (d : Character) : response false false false d = d.setWidth 16 := by
  simp [response]

/-- Settles O22: an ENC in range has no fault and answers with its entry. -/
theorem encInRangeCompletes : Obligations.EncInRangeCompletes := by
  unfold Obligations.EncInRangeCompletes
  intro s k hrange
  have hresult : resultOf (.enc k) = (response true false false (encRead ⟨k.toNat, hrange⟩), none) :=
    encResult_inRange k (by omega)
  rw [exec_of_noFault (by rw [hresult]), hresult, response_hit, encAt_constructedTables]
  rfl

/-- Settles O23: an ENC out of range has the result of R80's fault. -/
theorem encOutOfRangeCompletes : Obligations.EncOutOfRangeCompletes := by
  unfold Obligations.EncOutOfRangeCompletes
  intro s k hrange
  have hresult : resultOf (.enc k) = (response false true false 0#13, some .indexOutOfRange) :=
    encResult_outOfRange k hrange
  have hword : encode (.enc k) = k.setWidth 16 := by simp [encode, requestWord]
  rw [exec_of_fault (by rw [hresult]), hresult, hword]
  rfl

/-- Settles O24: a DEC never faults, and answers with the entry or with the absent index. -/
theorem decCompletes : Obligations.DecCompletes := by
  unfold Obligations.DecCompletes
  intro s v
  rw [exec_of_noFault (i := .dec v) (decResult_fault v), decAt_constructedTables, fcsAt_constructedTables, resultOf]
  cases hread : decRead v with
  | none => rw [decResult_miss v hread, response_noFlags]; rfl
  | some i => simp [decResult_hit v i hread, response_hit, zextIndex]

/-- Settles O25: a PAR never faults, and answers with the presence and parity of the entry. -/
theorem parCompletes : Obligations.ParCompletes := by
  unfold Obligations.ParCompletes
  intro s v
  rw [exec_of_noFault (i := .par v) (parResult_fault v), decAt_constructedTables, fcsAt_constructedTables, resultOf]
  cases hread : decRead v with
  | none => rw [parResult_miss v hread, response_noFlags]; rfl
  | some i => simp [parResult_hit v i hread, response_hit]

/-- Settles O26: the result of a reserved word is R83's, and its word has bit 13 set. -/
theorem reservedBitWordCompletes : Obligations.ReservedBitWordCompletes := by
  unfold Obligations.ReservedBitWordCompletes
  exact fun s op arg => exec_of_fault (i := .illegalRsv op arg) illegalResult_fault s

/-- Settles O27: the result of a reserved word is R83's, and its word has bits 15:13 = 110. -/
theorem reservedOpWordCompletes : Obligations.ReservedOpWordCompletes := by
  unfold Obligations.ReservedOpWordCompletes
  exact fun s arg => exec_of_fault (i := .illegalOp arg) illegalResult_fault s

/-- The three top bits of a response are its flags (R47). -/
theorem response_topBits (hit err par : Bool) (d : Character) :
    response hit err par d &&& 0xE000#16 = response hit err par 0#13 := by
  have hword : ∀ e : Character, response hit err par e = requestWord (BitVec.ofBool hit ++ BitVec.ofBool err) par e := by
    intro e
    unfold response requestWord
    cases hit <;> cases err <;> rfl
  rw [hword, hword, requestWord_topBits]

/-- Settles O31: both responses hold the presence and the parity of the entry, and PAR has no data. -/
theorem parIsDecWithoutData : Obligations.ParIsDecWithoutData := by
  unfold Obligations.ParIsDecWithoutData
  intro v
  simp [resultOf, decResult_eq, parResult_eq, response_topBits]

end Sys2Proof.Machine
end

section
/-! Proofs about the functions on 13-bit values (spec/40_table_construction.md section 1) and the single-bit neighbours
of a character (spec/41_lookup_operations.md section 4): popcounts as counts of set bits. -/

namespace Sys2Proof.Machine

/-- Two characters are equal when their bits 0 to 12 are. -/
theorem character_ext {u v : Character} (hbits : ∀ i ≤ 12, u.getLsbD i = v.getLsbD i) : u = v :=
  BitVec.eq_of_getLsbD_eq fun i hi => hbits i (by omega)

/-- The mirrored positions are the positions in reverse order, so reversal keeps the popcount (R63). -/
theorem popcount13_rev13 (v : Character) : popcount13 (rev13 v) = popcount13 v := by
  have hmirror : (List.range 13).map (12 - ·) = (List.range 13).reverse := by decide
  calc popcount13 (rev13 v)
      = (List.range 13).countP (fun i => (rev13 v).getLsbD i) := popcount13_eq_countP _
    _ = (List.range 13).countP (v.getLsbD ∘ (12 - ·)) :=
        List.countP_congr fun i hi => by
          have hle : i ≤ 12 := Nat.le_of_lt_succ (List.mem_range.mp hi)
          rw [rev13_getLsbD v i hle, Function.comp_apply]
    _ = ((List.range 13).reverse).countP v.getLsbD := by rw [← List.countP_map, hmirror]
    _ = popcount13 v := by rw [List.countP_reverse, popcount13_eq_countP]

/-- Reversal undoes itself (R63). -/
@[simp] theorem rev13_rev13 (v : Character) : rev13 (rev13 v) = v := by
  refine character_ext fun i hi => ?_
  rw [rev13_getLsbD _ i hi, rev13_getLsbD _ (12 - i) (by omega), Nat.sub_sub_self hi]

/-- The complement has the clear bits of a character (R63). -/
theorem popcount13_compl13 (v : Character) : popcount13 (compl13 v) = 13 - popcount13 v := by
  have hcompl : popcount13 (compl13 v) = (List.range 13).countP (fun i => !v.getLsbD i) := by
    rw [popcount13_eq_countP]
    refine List.countP_congr fun i hi => ?_
    rw [compl13_getLsbD v i (Nat.le_of_lt_succ (List.mem_range.mp hi))]
  have hsplit := List.length_eq_countP_add_countP (l := List.range 13) (fun i => v.getLsbD i)
  simp only [List.length_range, Bool.not_eq_true, Bool.decide_eq_false] at hsplit
  rw [hcompl, popcount13_eq_countP]
  omega

/-- Reversal and complement commute (R63). -/
theorem rev13_compl13 (v : Character) : rev13 (compl13 v) = compl13 (rev13 v) := by
  refine character_ext fun i hi => ?_
  rw [rev13_getLsbD _ i hi, compl13_getLsbD _ (12 - i) (by omega), compl13_getLsbD _ i hi, rev13_getLsbD _ i hi]

/-- Settles O55: the four laws, bit by bit. -/
theorem reversalAndComplementLaws : Obligations.ReversalAndComplementLaws := by
  unfold Obligations.ReversalAndComplementLaws
  exact fun v => ⟨popcount13_rev13 v, rev13_rev13 v, popcount13_compl13 v, rev13_compl13 v⟩

/-- A character with bit i flipped. -/
def flipBit (v : Character) (i : Fin 13) : Character := v ^^^ BitVec.twoPow 13 i.val

/-- A flip inverts its own bit alone. -/
theorem flipBit_getLsbD (v : Character) (i : Fin 13) (j : Nat) :
    (flipBit v i).getLsbD j = if j = i.val then !v.getLsbD j else v.getLsbD j := by
  have hi := i.isLt
  rw [flipBit, BitVec.getLsbD_xor, BitVec.getLsbD_twoPow]
  split
  case isTrue hji => simp [hji, hi]
  case isFalse hji => simp [Ne.symm hji]

@[simp] theorem flipBit_flipBit (v : Character) (i : Fin 13) : flipBit (flipBit v i) i = v := by
  simp [flipBit]

/-- The popcount, with the count of one bit taken apart. -/
theorem popcount13_eq_erase (v : Character) (i : Fin 13) :
    popcount13 v = ((List.range 13).erase i.val).countP (fun j => v.getLsbD j) + (v.getLsbD i.val).toNat := by
  have hperm : (List.range 13).Perm (i.val :: (List.range 13).erase i.val) :=
    List.perm_cons_erase (List.mem_range.mpr i.isLt)
  rw [popcount13_eq_countP, hperm.countP_eq, List.countP_cons]
  cases v.getLsbD i.val <;> rfl

/-- Setting a clear bit raises the popcount by one. -/
theorem popcount13_flipBit_of_clear {v : Character} {i : Fin 13} (hclear : v.getLsbD i.val = false) :
    popcount13 (flipBit v i) = popcount13 v + 1 := by
  have hothers : ((List.range 13).erase i.val).countP (fun j => (flipBit v i).getLsbD j)
      = ((List.range 13).erase i.val).countP (fun j => v.getLsbD j) :=
    List.countP_congr fun j hj => by
      have hne : j ≠ i.val := ((List.nodup_range (n := 13)).mem_erase_iff.mp hj).1
      rw [flipBit_getLsbD, if_neg hne]
  rw [popcount13_eq_erase (flipBit v i) i, popcount13_eq_erase v i, hothers, flipBit_getLsbD, if_pos rfl, hclear]
  rfl

/-- Clearing a set bit lowers the popcount by one: it undoes the setting. -/
theorem popcount13_flipBit_of_set {v : Character} {i : Fin 13} (hset : v.getLsbD i.val = true) :
    popcount13 (flipBit v i) + 1 = popcount13 v := by
  have hclear : (flipBit v i).getLsbD i.val = false := by rw [flipBit_getLsbD, if_pos rfl, hset, Bool.not_true]
  rw [← popcount13_flipBit_of_clear hclear, flipBit_flipBit]

/-- A flip of one bit moves the popcount by one (R91). -/
theorem popcount13_flipBit (v : Character) (i : Fin 13) :
    popcount13 (flipBit v i) = popcount13 v + 1 ∨ popcount13 (flipBit v i) + 1 = popcount13 v := by
  cases hbit : v.getLsbD i.val with
  | false => exact .inl (popcount13_flipBit_of_clear hbit)
  | true => exact .inr (popcount13_flipBit_of_set hbit)

/-- A popcount below 13 leaves a bit to set. -/
theorem exists_flipBit_up {v : Character} (hlt : popcount13 v < 13) :
    ∃ i : Fin 13, popcount13 (flipBit v i) = popcount13 v + 1 := by
  by_contra hnone
  have hall : ∀ j ∈ List.range 13, v.getLsbD j = true := fun j hj => by
    by_contra hclear
    exact hnone ⟨⟨j, List.mem_range.mp hj⟩, popcount13_flipBit_of_clear (by simpa using hclear)⟩
  rw [popcount13_eq_countP, List.countP_eq_length.mpr hall, List.length_range] at hlt
  omega

/-- A popcount above 0 leaves a bit to clear. -/
theorem exists_flipBit_down {v : Character} (hpos : 0 < popcount13 v) :
    ∃ i : Fin 13, popcount13 (flipBit v i) + 1 = popcount13 v := by
  rw [popcount13_eq_countP, List.countP_pos_iff] at hpos
  obtain ⟨j, hj, hset⟩ := hpos
  exact ⟨⟨j, List.mem_range.mp hj⟩, popcount13_flipBit_of_set hset⟩

/-- The popcounts that hit are those that are 2 modulo 3, which is why two neighbours never hit both. -/
theorem decRead_isSome_iff_mod (v : Character) : (decRead v).isSome = true ↔ popcount13 v % 3 = 2 := by
  have hle := popcount13_le v
  simp only [decRead_isSome_iff, List.mem_cons, List.not_mem_nil, or_false]
  omega

/-- The popcounts from which one flip hits (R91). -/
theorem exists_flipBit_hits_iff (v : Character) :
    (∃ i : Fin 13, (decRead (flipBit v i)).isSome = true) ↔ popcount13 v ∈ [1, 3, 4, 6, 7, 9, 10, 12] := by
  have hle := popcount13_le v
  simp only [decRead_isSome_iff_mod, List.mem_cons, List.not_mem_nil, or_false]
  constructor
  · rintro ⟨i, hhit⟩
    have hmove := popcount13_flipBit v i
    have hle' := popcount13_le (flipBit v i)
    omega
  · intro hneighbour
    by_cases hup : popcount13 v % 3 = 1
    · obtain ⟨i, hi⟩ := exists_flipBit_up (v := v) (by omega)
      exact ⟨i, by omega⟩
    · obtain ⟨i, hi⟩ := exists_flipBit_down (v := v) (by omega)
      exact ⟨i, by omega⟩

/-- Settles O33: a flip moves the popcount by one, and hits are the popcounts that are 2 modulo 3. -/
theorem singleBitNeighboursOfHits : Obligations.SingleBitNeighboursOfHits := by
  unfold Obligations.SingleBitNeighboursOfHits
  refine ⟨fun v i => ⟨popcount13_flipBit v i, decRead_isSome_iff _, fun hhit => ?_⟩, exists_flipBit_hits_iff⟩
  have hmove := popcount13_flipBit v i
  rw [decRead_isSome_iff_mod] at hhit
  rw [← Bool.not_eq_true, decRead_isSome_iff_mod]
  change popcount13 (flipBit v i) % 3 ≠ 2
  omega

end Sys2Proof.Machine
end

section
/-! Proofs about the construction (spec/40_table_construction.md sections 1 and 2): what one `Place` writes, and what the
two calls of `Build` leave. -/

namespace Sys2Proof.Machine

/-- `Place(c, k)` enters the codeword in ENC at `k`, and nowhere else (R57). -/
theorem encAt_place {t : Tables} (hwidth : t.enc.width = 13) (c : Character) (k j : Fin 1365) :
    (place c k.val t).encAt j = if j = k then c else t.encAt j := by
  unfold Tables.encAt place
  by_cases hjk : j = k
  · have hfits : c.toNat < 2 ^ t.enc.width := by rw [hwidth]; exact c.isLt
    simp [hjk, read_write_same _ _ _ hfits]
  · have hne : k.val ≠ j.val := fun h => hjk (Fin.ext h.symm)
    simp [hjk, read_write_other _ _ _ _ hne]

/-- Settles O44: what `Place` writes to each of the three tables, at the placed entries and away from them. -/
theorem placeEntersTheCodewordAndItsComplement : Obligations.PlaceEntersTheCodewordAndItsComplement := by
  unfold Obligations.PlaceEntersTheCodewordAndItsComplement
  intro t c k henc hdec hfcs
  refine ⟨?_, ?_, fcsAt_place_codeword hfcs c k, fcsAt_place_complement hfcs c k, ?_, fun v hc hcompl => ⟨?_, ?_⟩,
    fun j hj => ?_⟩
  · rw [decAt_place hdec, if_pos (.inl rfl)]
  · rw [decAt_place hdec, if_pos (.inr rfl)]
  · rw [encAt_place henc, if_pos rfl]
  · rw [decAt_place hdec, if_neg (not_or.mpr ⟨hc, hcompl⟩)]
  · exact fcsAt_place_other t k hc hcompl
  · rw [encAt_place henc, if_neg hj]

/-- The wide call of `Build` fills its range: its two ends meet (R64). -/
theorem buildWide_ends : (buildWide initialTables).low = 1272 ∧ (buildWide initialTables).high = 1271 := by
  decide +kernel

/-- The narrow call of `Build` fills its range: its two ends meet (R64). -/
theorem buildNarrow_ends :
    (buildNarrow (buildWide initialTables).tables).low = 1359
      ∧ (buildNarrow (buildWide initialTables).tables).high = 1358 := by
  decide +kernel

/-- A second run of both calls writes what is there already (R75). -/
theorem build_romContents : (buildNarrow (buildWide romContents).tables).tables = romContents := by decide +kernel

/-- Settles O45: both calls and a second run of them, evaluated. -/
theorem buildFillsItsRangesAndIsIdempotent : Obligations.BuildFillsItsRangesAndIsIdempotent := by
  unfold Obligations.BuildFillsItsRangesAndIsIdempotent
  rw [constructedTables_eq_romContents]
  exact ⟨buildWide_ends.1, buildWide_ends.2, buildNarrow_ends.1, buildNarrow_ends.2, build_romContents⟩

end Sys2Proof.Machine
end

section
/-! Proofs about the contents of the tables (spec/40_table_construction.md section 2). Each law that names every entry
is evaluated once on the images; the others follow from these. -/

namespace Sys2Proof.Machine

/-- Settles O51: the law that O18 evaluates. -/
theorem familyByIndex : Obligations.FamilyByIndex := by
  unfold Obligations.FamilyByIndex
  exact popcount13_encRead

/-- Settles O47: presence is by popcount. -/
theorem decEntryPresentByPopcount : Obligations.DecEntryPresentByPopcount := by
  unfold Obligations.DecEntryPresentByPopcount
  exact decRead_isSome_iff

/-- Settles O54: the construction keeps the two tables symmetric under complement. -/
theorem complementHasTheSameEntryAndOtherParity : Obligations.ComplementHasTheSameEntryAndOtherParity := by
  unfold Obligations.ComplementHasTheSameEntryAndOtherParity
  exact fun v => ⟨decRead_compl13 v, fcsRead_compl13⟩

/-- What a list's members do not meet, they meet the negation of. -/
theorem countP_not_range {p : Nat → Bool} {n m : Nat} (hcount : (List.range (n + m)).countP p = n) :
    (List.range (n + m)).countP (fun k => !p k) = m := by
  have hsplit := List.length_eq_countP_add_countP (l := List.range (n + m)) p
  simp only [List.length_range, Bool.not_eq_true, Bool.decide_eq_false, hcount] at hsplit
  omega

/-- Settles O46: present entries, parities of 1 and palindromes are counted on the images; the others are the rest. -/
theorem countsOfTheContents : Obligations.CountsOfTheContents := by
  unfold Obligations.CountsOfTheContents
  have hpresent : (List.range (2730 + 5462)).countP (fun n => (decRead (BitVec.ofNat 13 n)).isSome) = 2730 := by
    decide +kernel
  have hparity : (List.range (1365 + 6827)).countP (fun n => fcsRead (BitVec.ofNat 13 n)) = 1365 := by decide +kernel
  have habsent : (List.range (2730 + 5462)).countP (fun n => (decRead (BitVec.ofNat 13 n)).isNone) = 5462 := by
    simpa only [Option.not_isSome] using countP_not_range hpresent
  have hnoParity : (List.range (1365 + 6827)).countP (fun n => !fcsRead (BitVec.ofNat 13 n)) = 6827 :=
    countP_not_range hparity
  exact ⟨hpresent, habsent, hparity, hnoParity, by decide +kernel, by decide +kernel⟩

/-- Settles O52: the listed entries and the digest, evaluated on the image of ENC. -/
theorem palindromesAndDigestOfEnc : Obligations.PalindromesAndDigestOfEnc := by
  unfold Obligations.PalindromesAndDigestOfEnc
  exact ⟨by decide +kernel, by decide +kernel, by decide +kernel, by decide +kernel, by decide +kernel,
    by decide +kernel⟩

/-- The entry of a codeword is its index (R69), evaluated on the images. -/
@[simp] theorem decRead_encRead (k : Fin 1365) : decRead (encRead k) = some (BitVec.ofNat 11 k.val) := by
  simpa using forall_index (fun k => decRead (encRead k) == some (BitVec.ofNat 11 k.val)) (by decide +kernel) k

/-- The parity of a codeword is 0 (R69), evaluated on the images. -/
@[simp] theorem fcsRead_encRead (k : Fin 1365) : fcsRead (encRead k) = false := by
  simpa using forall_index (fun k => !fcsRead (encRead k)) (by decide +kernel) k

/-- The parity of a codeword's complement is 1 (R69). -/
@[simp] theorem fcsRead_compl13_encRead (k : Fin 1365) : fcsRead (compl13 (encRead k)) = true := by
  rw [fcsRead_compl13 (by simp), fcsRead_encRead, Bool.not_false]

/-- Every entry names the index of the character or of its complement (R69), evaluated on the images. -/
theorem encRead_of_decRead {v : Character} {i : Index} (hentry : decRead v = some i) :
    ∃ hrange : i.toNat < 1365, encRead ⟨i.toNat, hrange⟩ = v ∨ encRead ⟨i.toNat, hrange⟩ = compl13 v := by
  have heval := forall_character
    (fun v => (decRead v).all fun i => decide (i.toNat < 1365)
      && (encRead (Fin.ofNat 1365 i.toNat) == v || encRead (Fin.ofNat 1365 i.toNat) == compl13 v))
    (by decide +kernel) v
  simp only [hentry, Option.all_some, Bool.and_eq_true, decide_eq_true_eq, Bool.or_eq_true, beq_iff_eq] at heval
  obtain ⟨hrange, hcodeword⟩ := heval
  have hindex : Fin.ofNat 1365 i.toNat = ⟨i.toNat, hrange⟩ := Fin.ext (Nat.mod_eq_of_lt hrange)
  exact ⟨hrange, hindex ▸ hcodeword⟩

/-- ENC is injective: DEC gives the index back (R69). -/
theorem encRead_injective : Function.Injective encRead := by
  intro j k hjk
  have hindices : some (BitVec.ofNat 11 j.val) = some (BitVec.ofNat 11 k.val) := by
    rw [← decRead_encRead, ← decRead_encRead, hjk]
  have hvalues : j.val % 2 ^ 11 = k.val % 2 ^ 11 := congrArg BitVec.toNat (Option.some.inj hindices)
  exact Fin.ext (by omega)

/-- Settles O49: an entry's parity tells whether its index is that of the character or of the complement, because
codewords have parity 0 and their complements parity 1. -/
theorem decIsTheInverseOfEnc : Obligations.DecIsTheInverseOfEnc := by
  unfold Obligations.DecIsTheInverseOfEnc
  refine ⟨fun k => by simp, fun v i hentry => ?_, fun j k hjk => encRead_injective hjk⟩
  obtain ⟨hrange, hcodeword | hcomplement⟩ := encRead_of_decRead hentry
  · exact ⟨hrange, .inl hcodeword, by simp [← hcodeword]⟩
  · refine ⟨hrange, .inr hcomplement, ?_⟩
    have hparity : fcsRead v = true := by
      rw [← compl13_compl13 v, ← hcomplement, fcsRead_compl13_encRead]
    simp [hparity, hcomplement, compl13_ne]

/-- The layout of one family: `pairs` pairs from index `base` on, then palindromes up to index `top` (R70). -/
def FamilyLayout (base pairs top : Nat) : Prop :=
  (∀ j : Nat, j < pairs →
    encRead (Fin.ofNat 1365 (base + 2 * j)) < encRead (Fin.ofNat 1365 (base + 2 * j + 1))
    ∧ encRead (Fin.ofNat 1365 (base + 2 * j + 1)) = rev13 (encRead (Fin.ofNat 1365 (base + 2 * j)))
    ∧ (j + 1 < pairs → encRead (Fin.ofNat 1365 (base + 2 * j)) < encRead (Fin.ofNat 1365 (base + 2 * j + 2))))
  ∧ (∀ n : Nat, base + 2 * pairs ≤ n → n ≤ top →
    rev13 (encRead (Fin.ofNat 1365 n)) = encRead (Fin.ofNat 1365 n)
    ∧ (n < top → encRead (Fin.ofNat 1365 (n + 1)) < encRead (Fin.ofNat 1365 n)))

/-- The wide family: 636 pairs and 15 palindromes, evaluated on the image of ENC. -/
theorem wideLayout : FamilyLayout 0 636 1286 := by
  unfold FamilyLayout
  exact ⟨by decide +kernel, by decide +kernel⟩

/-- The narrow family: 36 pairs and 6 palindromes, evaluated on the image of ENC. -/
theorem narrowLayout : FamilyLayout 1287 36 1364 := by
  unfold FamilyLayout
  exact ⟨by decide +kernel, by decide +kernel⟩

/-- Settles O50: the layouts of the two families. -/
theorem encLayoutOfPairsAndPalindromes : Obligations.EncLayoutOfPairsAndPalindromes := by
  unfold Obligations.EncLayoutOfPairsAndPalindromes
  intro base pairs top hfamily
  obtain hwide | hnarrow := hfamily
  · cases hwide
    exact wideLayout
  · cases hnarrow
    exact narrowLayout

/-- The index of the reversal of the codeword at index `k` (R73). -/
def partnerIndex (k : Nat) : Nat :=
  if (1272 ≤ k ∧ k ≤ 1286) ∨ 1359 ≤ k then k
  else if k < 1287 then (if k % 2 = 0 then k + 1 else k - 1)
  else (if (k - 1287) % 2 = 0 then k + 1 else k - 1)

theorem partnerIndex_lt {k : Nat} (hk : k < 1365) : partnerIndex k < 1365 := by
  unfold partnerIndex
  split_ifs <;> omega

/-- A codeword's reversal is its partner's codeword (R73), evaluated on the image of ENC. -/
theorem rev13_encRead (k : Fin 1365) : rev13 (encRead k) = encRead ⟨partnerIndex k.val, partnerIndex_lt k.isLt⟩ := by
  simpa using forall_index
    (fun k => rev13 (encRead k) == encRead ⟨partnerIndex k.val, partnerIndex_lt k.isLt⟩) (by decide +kernel) k

/-- Settles O53: the reversal is the partner's codeword, and DEC and FCS have the partner's index and parity 1 at that
codeword's complement. -/
theorem reverseComplementNamesThePartner : Obligations.ReverseComplementNamesThePartner := by
  unfold Obligations.ReverseComplementNamesThePartner
  intro k
  rw [rev13_encRead]
  exact ⟨fcsRead_compl13_encRead _, (decRead_compl13 _).trans (decRead_encRead _)⟩

/-- Settles O32: the codeword that ENC answers has the index's entry with parity 0, its complement the same with
parity 1, and neither request faults. -/
theorem decInvertsEnc : Obligations.DecInvertsEnc := by
  unfold Obligations.DecInvertsEnc
  intro s k c xs henc hinputs
  have hk := k.isLt
  have hindex : (BitVec.ofNat 13 k.val).toNat = k.val := Nat.mod_eq_of_lt (by omega)
  have hcodeword : encRead k = c := by
    rw [execute_encode, resultOf, encResult_inRange _ (by omega), fieldsOf_response] at henc
    simpa [hindex] using henc
  have hdata : (BitVec.ofNat 11 k.val).setWidth 13 = BitVec.ofNat 13 k.val := by
    apply BitVec.eq_of_toNat_eq
    simp
    omega
  have hsecond : (acceptRequest (execute (encode (.dec c))) (encode (.dec c)) (takeSample s)).inputs
      = requestSample (encode (.dec (compl13 c))) :: xs := by simp [hinputs]
  refine ⟨_, _, step_of_request hinputs, step_of_request hsecond, ?_⟩
  subst hcodeword
  simp [resultOf, decResult_eq, acceptRequest_of_noFault, hdata]

end Sys2Proof.Machine
end

section
/-! Proofs about runs (spec/70_reset_and_hazards.md section 4): one induction along the samples of a run, and the fault
registers as the record of a first fault (spec/60_exceptions.md sections 2 and 3). -/

namespace Sys2Proof.Machine

/-- A run of one step more observes the response that the step leaves, and then what the rest observes. -/
theorem observeSteps_succ {n : Nat} {s t u : State} {o : Observation} (hstep : step s = .next t)
    (hrest : observeSteps n t = some (o, u)) :
    observeSteps (n + 1) s = some ({ o with responses := (t.rspValidQ, t.rspQ) :: o.responses }, u) := by
  simp [observeSteps, hstep, hrest]

/-- No edge touches the samples still to come. -/
theorem clockEdge_inputs {x : Sample} {s t : State} (hedge : clockEdge x s = .next t) : t.inputs = s.inputs := by
  obtain ⟨-, rfl⟩ | ⟨-, -, rfl⟩ | ⟨-, -, rfl⟩ := clockEdge_inversion hedge
  · exact resetEdge_inputs s
  · exact acceptRequest_inputs _ _ s
  · exact idleEdge_inputs s

/-- The run of listed samples is observed to its end (no step stops it), and what holds of the empty run and is handed
back by each edge holds of its observation. -/
theorem observeSteps_induction {P : List Sample → State → Observation → Prop}
    (hnil : ∀ s, P [] s ⟨[], s.faultCauseQ, s.faultInfoQ⟩)
    (hcons : ∀ x xs s t o, clockEdge x (takeSample s) = .next t → P xs t o →
      P (x :: xs) s { o with responses := (t.rspValidQ, t.rspQ) :: o.responses }) :
    ∀ xs s, s.inputs = xs → ∃ o u, observeSteps xs.length s = some (o, u) ∧ P xs s o := by
  intro xs
  induction xs with
  | nil => exact fun s _ => ⟨_, s, rfl, hnil s⟩
  | cons x xs ih =>
    intro s hinputs
    obtain ⟨t, hstep⟩ := everyStepHasANextState s
    have hedge : clockEdge x (takeSample s) = .next t := by rwa [step, nextSample_of_cons s x xs hinputs] at hstep
    have hrest : t.inputs = xs := by rw [clockEdge_inputs hedge, takeSample_inputs, hinputs, List.tail_cons]
    obtain ⟨o, u, hrun, hP⟩ := ih t hrest
    exact ⟨_, u, observeSteps_succ hstep hrun, hcons x xs s t o hedge hP⟩

/-- The response an edge leaves is that of the request it accepted (R79, R85). -/
theorem clockEdge_rspQ_of_valid {x : Sample} {s t : State} (hedge : clockEdge x s = .next t)
    (hvalid : t.rspValidQ = true) : t.rspQ = (execute x.reqWord).1 := by
  obtain ⟨hrst, hreq⟩ := (clockEdge_rspValidQ hedge).mp hvalid
  rw [clockEdge_of_request s hrst hreq] at hedge
  obtain rfl := Host.Outcome.next.inj hedge
  exact acceptRequest_rspQ _ _ _

/-- What is observed in the cycle after an edge under sample `x`: valid exactly after an accepted request, with the
response of its word. -/
def AnswersSample (x : Sample) (r : Bool × Word) : Prop :=
  (r.1 = true ↔ x.rst = false ∧ x.reqValid = true) ∧ (r.1 = true → r.2 = (execute x.reqWord).1)

theorem clockEdge_answersSample {x : Sample} {s t : State} (hedge : clockEdge x s = .next t) :
    AnswersSample x (t.rspValidQ, t.rspQ) :=
  ⟨clockEdge_rspValidQ hedge, clockEdge_rspQ_of_valid hedge⟩

/-- Each sample of a run is answered in its own place. -/
theorem observeSteps_answers (xs : List Sample) (s : State) (hinputs : s.inputs = xs) :
    ∃ o u, observeSteps xs.length s = some (o, u) ∧ List.Forall₂ AnswersSample xs o.responses :=
  observeSteps_induction (P := fun xs _ o => List.Forall₂ AnswersSample xs o.responses) (fun _ => .nil)
    (fun _ _ _ _ _ hedge hrest => .cons (clockEdge_answersSample hedge) hrest) xs s hinputs

/-- Settles O43: the samples and the responses of a run correspond one to one, each by `AnswersSample`. -/
theorem runAnswersEachRequestByItsOwnWord : Obligations.RunAnswersEachRequestByItsOwnWord := by
  unfold Obligations.RunAnswersEachRequestByItsOwnWord
  intro s xs
  obtain ⟨o, u, hrun, hanswers⟩ := observeSteps_answers xs (presentSamples xs s) rfl
  refine ⟨o, u, hrun, hanswers.length_eq.symm, fun i x hx => ?_⟩
  obtain ⟨hi, rfl⟩ := List.getElem?_eq_some_iff.mp hx
  have hi' : i < o.responses.length := hanswers.length_eq ▸ hi
  exact ⟨o.responses[i], List.getElem?_eq_getElem hi', hanswers.get hi hi'⟩

/-- The contents of the two fault registers when `f` is the recorded fault (R20, R21). -/
def faultRecord (f : Option (Cause × Word)) : BitVec 2 × Word :=
  match f with
  | none => (0#2, 0x0000#16)
  | some (c, w) => (c.code, w)

theorem sinceLastReset_append (xs : List Sample) (x : Sample) :
    sinceLastReset (xs ++ [x]) = if x.rst then [] else sinceLastReset xs ++ [x] := by
  cases hrst : x.rst <;> simp [sinceLastReset, hrst]

/-- The first fault since the last reset, when one sample more is taken: reset forgets it, an earlier fault stands, and
otherwise it is the fault of the new sample. -/
theorem firstFault_append (xs : List Sample) (x : Sample) :
    firstFault (xs ++ [x]) = if x.rst then none else (firstFault xs).or (faultOf x) := by
  rw [firstFault, sinceLastReset_append]
  split
  · rfl
  · rw [List.findSome?_append, firstFault]
    simp

theorem faultOf_of_request {x : Sample} (hrst : x.rst = false) (hvalid : x.reqValid = true) :
    faultOf x = (execute x.reqWord).2.map (·, x.reqWord) := by
  simp [faultOf, hrst, hvalid]

theorem faultOf_of_idle {x : Sample} (hvalid : x.reqValid = false) : faultOf x = none := by
  simp [faultOf, hvalid]

/-- Accepting a request records its fault exactly where no fault is recorded (R95). -/
theorem acceptRequest_faultRecord {s : State} {f : Option (Cause × Word)}
    (hrecord : (s.faultCauseQ, s.faultInfoQ) = faultRecord f) (result : Word × Option Cause) (w : Word) :
    ((acceptRequest result w s).faultCauseQ, (acceptRequest result w s).faultInfoQ)
      = faultRecord (f.or (result.2.map (·, w))) := by
  cases f with
  | some first =>
    have hcause : s.faultCauseQ = first.1.code := congrArg Prod.fst hrecord
    have hrecorded : s.faultCauseQ ≠ 0#2 := hcause ▸ code_ne_zero first.1
    rwa [acceptRequest_of_recorded hrecorded, Option.some_or]
  | none =>
    cases hfault : result.2 with
    | none => rwa [acceptRequest_of_noFault hfault]
    | some c =>
      rw [acceptRequest_of_firstFault hfault (congrArg Prod.fst hrecord)]
      rfl

/-- An edge under sample `x` takes the record of the first fault of `past` to that of `past` and `x`. -/
theorem clockEdge_faultRecord {x : Sample} {s t : State} {past : List Sample} (hedge : clockEdge x s = .next t)
    (hrecord : (s.faultCauseQ, s.faultInfoQ) = faultRecord (firstFault past)) :
    (t.faultCauseQ, t.faultInfoQ) = faultRecord (firstFault (past ++ [x])) := by
  rw [firstFault_append]
  obtain ⟨hrst, rfl⟩ | ⟨hrst, hvalid, rfl⟩ | ⟨hrst, hvalid, rfl⟩ := clockEdge_inversion hedge
  · rw [if_pos hrst]
    rfl
  · rw [if_neg (by simp [hrst]), faultOf_of_request hrst hvalid]
    exact acceptRequest_faultRecord hrecord _ _
  · rw [if_neg (by simp [hrst]), faultOf_of_idle hvalid, Option.or_none]
    exact hrecord

/-- An observation of the samples `xs` from `s` carries the fault record on: when `s` records the first fault of some
earlier samples, the observation ends with that of the earlier samples and `xs`. -/
def CarriesFaultRecord (xs : List Sample) (s : State) (o : Observation) : Prop :=
  ∀ past, (s.faultCauseQ, s.faultInfoQ) = faultRecord (firstFault past) →
    (o.faultCause, o.faultInfo) = faultRecord (firstFault (past ++ xs))

theorem observeSteps_carriesFaultRecord (xs : List Sample) (s : State) (hinputs : s.inputs = xs) :
    ∃ o u, observeSteps xs.length s = some (o, u) ∧ CarriesFaultRecord xs s o := by
  refine observeSteps_induction (P := CarriesFaultRecord) ?_ ?_ xs s hinputs
  · intro s past hrecord
    rwa [List.append_nil]
  · intro x xs s t o hedge hrest past hrecord
    rw [List.append_cons]
    exact hrest (past ++ [x]) (clockEdge_faultRecord hedge hrecord)

/-- Settles O42: the first edge leaves the record of no fault, which is that of the run so far, whatever was recorded
before it; the rest of the run carries the record on. -/
theorem runRecordsTheFirstFaultSinceTheLastReset : Obligations.RunRecordsTheFirstFaultSinceTheLastReset := by
  unfold Obligations.RunRecordsTheFirstFaultSinceTheLastReset
  intro s x xs hrst
  have hstep := step_of_reset (s := presentSamples (x :: xs) s) rfl hrst
  obtain ⟨o, u, hrun, hrecord⟩ :=
    observeSteps_carriesFaultRecord xs (resetEdge (takeSample (presentSamples (x :: xs) s))) rfl
  have hstart : firstFault [x] = none := by rw [← List.nil_append [x], firstFault_append, if_pos hrst]
  refine ⟨_, u, observeSteps_succ hstep hrun, (hrecord [x] (by rw [hstart]; rfl)).trans ?_⟩
  rw [List.singleton_append]
  cases firstFault (x :: xs) <;> rfl

end Sys2Proof.Machine
end

section
/-! Proofs about the assembler (spec/30_encoding.md section 4). -/

namespace Sys2Proof.Machine

/-- Settles O56: the samples of each pseudo-instruction are those of its line, and the inputs they leave unsaid are
ignored at their edge. -/
theorem pseudoInstructionsExpand : Obligations.PseudoInstructionsExpand := by
  unfold Obligations.PseudoInstructionsExpand
  have hidle : ∀ n, ∀ x ∈ lineSamples (.idle n), x.rst = false ∧ x.reqValid = false := by
    intro n x hx
    obtain rfl : x = idleSample := List.eq_of_mem_replicate hx
    exact ⟨rfl, rfl⟩
  refine ⟨fun n => ⟨List.length_replicate, hidle n⟩, fun w => ?_, fun v => ?_, ⟨resetSample, rfl, rfl⟩,
    fun s x y xs hreset hy => ?_, fun n s x y xs hx hy hyvalid => ?_, by decide⟩
  · simp [lineSamples]
  · obtain ⟨-, hdec, -⟩ := encodingFormulasOfLookups
    simp only [lineSamples, BitVec.ofNat_toNat, BitVec.setWidth_eq, hdec, compl13]
  · obtain rfl : resetSample = x := List.head_eq_of_cons_eq hreset
    exact ignoredInputsChangeNothing s _ y xs (.inl ⟨rfl, hy⟩)
  · obtain ⟨hxrst, hxvalid⟩ := hidle n x hx
    exact ignoredInputsChangeNothing s x y xs (.inr ⟨hxrst, hy, hxvalid, hyvalid⟩)

/-- A program whose lines are all well formed presents their samples in order (R53). -/
theorem programSamples_of_wf {p : List AsmLine} (hwf : ∀ l ∈ p, l.wf = true) :
    programSamples p = some (p.flatMap lineSamples) := by
  induction p with
  | nil => rfl
  | cons l ls ih =>
    obtain ⟨hl, hls⟩ := List.forall_mem_cons.mp hwf
    simp [programSamples, hl, ih hls]

/-- A program with an operand out of range is refused (R51). -/
theorem programSamples_of_not_wf {p : List AsmLine} {l : AsmLine} (hmem : l ∈ p) (hl : l.wf = false) :
    programSamples p = none := by
  induction p with
  | nil => cases hmem
  | cons a as ih =>
    obtain rfl | htail := List.mem_cons.mp hmem
    · simp [programSamples, hl]
    · simp [programSamples, ih htail]

/-- The assembler refuses exactly the programs with an operand out of range (R51). -/
theorem programSamples_eq_none_iff (p : List AsmLine) : programSamples p = none ↔ ∃ l ∈ p, l.wf = false := by
  constructor
  · intro hnone
    by_contra hall
    have hwf : ∀ l ∈ p, l.wf = true := fun l hl => by
      by_contra hbad
      exact hall ⟨l, hl, Bool.eq_false_iff.mpr hbad⟩
    rw [programSamples_of_wf hwf] at hnone
    cases hnone
  · rintro ⟨l, hmem, hl⟩
    exact programSamples_of_not_wf hmem hl

/-- Settles O57: the refusals are the ill-formed lines, and an ENC operand out of the table's range is well formed but
faults when it is performed. -/
theorem assemblerRefusesOperandsOutOfRange : Obligations.AssemblerRefusesOperandsOutOfRange := by
  unfold Obligations.AssemblerRefusesOperandsOutOfRange
  refine ⟨fun p => ⟨programSamples_eq_none_iff p, programSamples_of_wf⟩, fun k hlow hhigh => ?_, fun k hk => ?_⟩
  · have hindex : (BitVec.ofNat 13 k).toNat = k := Nat.mod_eq_of_lt (by omega)
    refine ⟨requestSample (encode (.enc (BitVec.ofNat 13 k))), ?_, rfl, rfl, ?_⟩
    · simp [programSamples, AsmLine.wf, hhigh, lineSamples]
    · rw [requestSample, execute_encode, resultOf, encResult_fault, if_pos (by omega)]
  · have hout : ¬k ≤ 8191 := by omega
    simp [programSamples, AsmLine.wf, hout]

end Sys2Proof.Machine
end
